-- ==== Sys2Proof/Word.lean ====
section
/-! DEFINITION. The words of the block and their plainest arithmetic (00_scope.md R4, R6, R7). -/

namespace Sys2Proof

/-- A segment pattern or a digit code: 8 bits (R4 SEG_W, R6). -/
abbrev Byte := BitVec 8

/-- NOW, LAST_MS, a blink period or an elapsed time: 32 bits (R6). -/
abbrev Word32 := BitVec 32

/-- The blink accumulator T: 33 bits (R6). -/
abbrev Accum := BitVec 33

/-- A frame sent to the driver chip: 20 bits (R4 FRAME_W). -/
abbrev FrameWord := BitVec 20

/-- The gate pointer's raw value: 2 bits (R6). -/
abbrev GateBits := BitVec 2

/-- A host command word: 96 bits (R55). -/
abbrev CommandWord := BitVec 96

/-- The digit code that means "blank" (R4 BLANK_CODE). -/
def blankCode : Byte := 16

/-- `zext_20(b) << 8`: a pattern in frame bits 15..8 (R51). -/
def highField (b : Byte) : FrameWord := b.setWidth 20 <<< 8

/-- `zext_20(b)`: a pattern in frame bits 7..0 (R51). -/
def lowField (b : Byte) : FrameWord := b.setWidth 20

/-- The frame with bit `n` alone set, `1 << n`. -/
def frameBit (n : Nat) : FrameWord := 1#20 <<< n

end Sys2Proof
end

