-- ==== Sys2Proof/Syntax.lean ====
section
/-! DEFINITION. The operations of the block, one constructor per row of spec/opcode_table.json, and the host's
textual calls (30_encoding.md R56, R63, R65). -/

namespace Sys2Proof

/-- Six digit codes, index 0 the rightmost tube (10_state.md R11). -/
structure Digits where
  d0 : Byte
  d1 : Byte
  d2 : Byte
  d3 : Byte
  d4 : Byte
  d5 : Byte
deriving DecidableEq, Repr

/-- The digit code at a tube index. -/
def Digits.get (d : Digits) : Fin 6 → Byte
  | 0 => d.d0
  | 1 => d.d1
  | 2 => d.d2
  | 3 => d.d3
  | 4 => d.d4
  | 5 => d.d5

/-- Six blank codes: what CLEAR publishes (46_host_commands.md R114), and the default of DISP_RESET (R5). -/
def Digits.blank : Digits := ⟨blankCode, blankCode, blankCode, blankCode, blankCode, blankCode⟩

/-- The legal values of a gate number (30_encoding.md R51). -/
inductive GateId where
  | gate0
  | gate1
  | gate2
deriving DecidableEq, Repr, Inhabited

/-- The two drive modes (00_scope.md R5). -/
inductive DriveMode where
  | polled
  | timer
deriving DecidableEq, Repr, Inhabited

/-- The two tube variants (00_scope.md R5). -/
inductive Variant where
  | v1
  | v2
deriving DecidableEq, Repr, Inhabited

/-- The four agents (10_state.md R10). -/
inductive Agent where
  | host
  | timer
  | refresh
  | serializer
deriving DecidableEq, Repr, Inhabited

/-- One turn of the interleaving: which agent moves, and the level of the time input NOW then
(10_state.md R19, 20_memory.md R38). -/
structure Turn where
  agent : Agent
  now : Word32
deriving DecidableEq, Repr, Inhabited

/-- The seven host operations, by the OP field (30_encoding.md R56). -/
inductive HostOp where
  | init
  | setDisplay
  | update
  | clear
  | logOff
  | power
  | tick
deriving DecidableEq, Repr

/-- Why the block refuses a command, or an instantiation (60_exceptions.md R125). -/
inductive Reason where
  | reservedOp
  | reservedBits
  | notInitialized
  | reinit
  | tickInTimerMode
  | logOffInPolledMode
  | badConfig
deriving DecidableEq, Repr

/-- The operations of the block: one constructor per row of the opcode table. The first seven are host commands,
the next three the other agents' operations, the rest the internal functions those call (R65). -/
inductive Instr where
  | init
  | setDisplay (digits : Digits)
  | update (digits : Digits) (period : Word32)
  | clear
  | logOff
  | power (on : Bool)
  | tick
  | timerFire
  | timerService
  | serStep
  | serStart (frame : FrameWord)
  | setBlanking (enabled : Bool)
  | lookup (slot : Fin 6) (code : Byte)
  | compose (gate : GateBits) (dlo dhi : Byte) (visible : Bool)
  | nextGate
  | blinkStep (period delta : Word32)
  | blinkReset
  | tickBody (n : Word32)
  | publish (digits : Digits) (period : Option Word32)
deriving DecidableEq, Repr

/-- The host operation an instruction is, where it is a host command. -/
def Instr.hostOp : Instr → Option HostOp
  | .init => some .init
  | .setDisplay _ => some .setDisplay
  | .update _ _ => some .update
  | .clear => some .clear
  | .logOff => some .logOff
  | .power _ => some .power
  | .tick => some .tick
  | .timerFire => none
  | .timerService => none
  | .serStep => none
  | .serStart _ => none
  | .setBlanking _ => none
  | .lookup _ _ => none
  | .compose _ _ _ _ => none
  | .nextGate => none
  | .blinkStep _ _ => none
  | .blinkReset => none
  | .tickBody _ => none
  | .publish _ _ => none

/-- A host command as its source-level call, with numerals not yet checked (30_encoding.md R63). -/
inductive Call where
  | init
  | setDisplay (digits : List Int)
  | update (digits : List Int) (period : Int)
  | clear
  | logOff
  | power (on : Bool)
  | tick
deriving DecidableEq, Repr

end Sys2Proof
end

