-- ==== Sys2Proof/Config.lean ====
section
/-! DEFINITION. The configuration parameters (00_scope.md R5) as plain data, and the free values: constants with no
body, of which nothing can be proved but their type. -/

namespace Sys2Proof

/-- The segment table of one variant: 6 slots of 17 codes (20_memory.md R30, R31). -/
abbrev SegTable := Vector (Vector Byte 17) 6

/-- The configuration of a model instance (00_scope.md R5). SEG is the V1 table and the permutation `perm` of bit
positions that turns a V1 pattern into the V2 one (20_memory.md R32; DEDUCED, safe, log 3). T_SETTLE is in
nanoseconds (DESIGN CHOICE, safe, log 21). -/
structure Config where
  variant : Variant
  segV1 : SegTable
  perm : Vector (Fin 8) 8
  driveMode : DriveMode
  tickMs : Nat
  settleNs : Nat
  dotPos1 : Fin 20
  dotPos2 : Fin 20
  dispReset : Digits
  perReset : Word32
deriving DecidableEq, Repr

/-- The pattern whose bit `perm b` is bit `b` of `p` (20_memory.md R32). -/
def permuteByte (perm : Vector (Fin 8) 8) (p : Byte) : Byte :=
  (List.finRange 8).foldl (fun acc (b : Fin 8) => if p.getLsbD b then acc ||| (1#8 <<< perm[b].val) else acc) 0#8

/-- SEG of a given variant at a legal (slot, code) (20_memory.md R31, R32). -/
def Config.segOf (c : Config) (v : Variant) (slot : Fin 6) (code : Fin 17) : Byte :=
  match v with
  | .v1 => c.segV1[slot][code]
  | .v2 => permuteByte c.perm (c.segV1[slot][code])

/-- RomRead(slot, code): SEG of the instance's VARIANT (00_scope.md R8, 41_segment_lookup.md R83). -/
def Config.romRead (c : Config) (slot : Fin 6) (code : Fin 17) : Byte := c.segOf c.variant slot code

/-! The free values. Each is a constant without a body (log 2, 4, 5, 18, 19, 20). -/

/-- VARIANT of the reset instance: "none, the model takes it" (R5). -/
opaque Config.freeVariant : Variant

/-- DRIVE_MODE of the reset instance: "none, the model takes it" (R5). -/
opaque Config.freeDriveMode : DriveMode

/-- The seven free bits of the pattern of each glyph code 0..15 (N1, N3). -/
opaque Config.freeGlyph : Fin 16 → BitVec 7

/-- The permutation between the variants on bits 0..6 (N2). -/
opaque Config.freePerm : Equiv.Perm (Fin 7)

/-- By how much T_SETTLE exceeds its 2 µs bound, in nanoseconds (N9). -/
opaque Config.freeSettleExcess : Nat

/-- SR and OUT of the chip at power-up: "any values" (60_exceptions.md R133). -/
opaque Config.chipPowerUpSr : FrameWord
opaque Config.chipPowerUpOut : FrameWord

/-- The turn the environment takes where none is scheduled: any agent, any NOW (I10, I11). -/
opaque Config.freeTurn : Nat → Turn

/-- The command word the host issues where none waits on the port: any word. -/
opaque Config.freeWord : Nat → CommandWord

/-- Whether OUT already shows SR, at an observation while LATCH_N = 0 (I2). -/
opaque Config.latchShowsSr : Nat → Bool

/-- The bit the chip samples from a DATA line that is not driven. -/
opaque Config.floatingBit : Nat → Bool

/-- The default SEG: uniform over the slots (41_segment_lookup.md R81), code 16 blank and bit 7 clear
(20_memory.md R31), all else free. -/
def Config.defaultSeg : SegTable :=
  Vector.ofFn fun _ => Vector.ofFn fun code =>
    if h : code.val < 16 then (Config.freeGlyph ⟨code.val, h⟩).setWidth 8 else 0#8

/-- The default permutation: free on bits 0..6, and bit 7 stays (20_memory.md R32). -/
def Config.defaultPerm : Vector (Fin 8) 8 :=
  Vector.ofFn fun b => if h : b.val < 7 then (Config.freePerm ⟨b.val, h⟩).castSucc else 7

/-- The instance with every default of R5, and a free value for every parameter that has none. -/
def Config.default : Config where
  variant := Config.freeVariant
  segV1 := Config.defaultSeg
  perm := Config.defaultPerm
  driveMode := Config.freeDriveMode
  tickMs := 5
  settleNs := 2000 + Config.freeSettleExcess
  dotPos1 := 7
  dotPos2 := 15
  dispReset := Digits.blank
  perReset := -1#32

end Sys2Proof
end

