-- ==== Sys2Proof/WellFormed.lean ====
section
/-! DEFINITION. What makes an operation, a textual call and a configuration well formed. -/

namespace Sys2Proof

/-- COMPOSE takes a gate in 0..2 (42_frame_composer.md R85); every other operand's type is its legal range. -/
def Instr.wellFormed : Instr → Bool
  | .compose g _ _ _ => g != 3
  | .init => true
  | .setDisplay _ => true
  | .update _ _ => true
  | .clear => true
  | .logOff => true
  | .power _ => true
  | .tick => true
  | .timerFire => true
  | .timerService => true
  | .serStep => true
  | .serStart _ => true
  | .setBlanking _ => true
  | .lookup _ _ => true
  | .nextGate => true
  | .blinkStep _ _ => true
  | .blinkReset => true
  | .tickBody _ => true
  | .publish _ _ => true

/-- Six numerals, each in 0..255 (30_encoding.md R63). -/
def digitsOk (ds : List Int) : Bool := ds.length == 6 && ds.all fun d => decide (0 ≤ d) && decide (d ≤ 255)

/-- A numeral in -2^31 .. 2^31-1 (30_encoding.md R63). -/
def periodOk (p : Int) : Bool := decide (-2147483648 ≤ p) && decide (p ≤ 2147483647)

/-- The numerals of a textual call are in range (30_encoding.md R63). -/
def Call.wellFormed : Call → Bool
  | .setDisplay ds => digitsOk ds
  | .update ds p => digitsOk ds && periodOk p
  | .init => true
  | .clear => true
  | .logOff => true
  | .power _ => true
  | .tick => true

/-- 20_memory.md R31, both conditions, for one variant's table. -/
def Config.tableOk (c : Config) (v : Variant) : Bool :=
  (List.finRange 6).all fun slot =>
    c.segOf v slot 16 == 0#8 && (List.finRange 17).all fun code => !(c.segOf v slot code).getLsbD 7

/-- `perm` is a permutation of the bit positions that fixes bit 7 (20_memory.md R32). -/
def Config.permOk (c : Config) : Bool := decide c.perm.toList.Nodup && decide (c.perm[7] = 7)

/-- T_SETTLE is at least 2 µs (00_scope.md R5). -/
def Config.settleOk (c : Config) : Bool := decide (2000 ≤ c.settleNs)

/-- SEG meets R31 and R32, as R5 asks of every instance. -/
def Config.segOk (c : Config) : Bool := c.tableOk .v1 && c.tableOk .v2 && c.permOk

/-- The configuration of a model instance is well formed (00_scope.md R5). -/
def Config.wellFormed (c : Config) : Bool := c.segOk && c.settleOk

end Sys2Proof
end

