-- ==== Sys2Proof/Decode.lean ====
section
/-! DEFINITION. The host command word: its fields, the decoder and the encoder (30_encoding.md R55 to R62). -/

namespace Sys2Proof

/-- OP = CW[3:0] (R55). -/
def opField (w : CommandWord) : BitVec 4 := w.extractLsb' 0 4

/-- ON = CW[4]; 1 means `power(true)` (R55, R59). -/
def onField (w : CommandWord) : Bool := w.getLsbD 4

/-- RSV = CW[15:5] (R55). -/
def rsvField (w : CommandWord) : BitVec 11 := w.extractLsb' 5 11

/-- DG_i = CW[16+8i+7 : 16+8i] (R55, R57). -/
def digitField (w : CommandWord) (i : Nat) : Byte := w.extractLsb' (16 + 8 * i) 8

/-- The six digit operands; none is refused (R57). -/
def digitsField (w : CommandWord) : Digits :=
  ⟨digitField w 0, digitField w 1, digitField w 2, digitField w 3, digitField w 4, digitField w 5⟩

/-- PER = CW[95:64], two's complement (R55, R58). -/
def periodField (w : CommandWord) : Word32 := w.extractLsb' 64 32

/-- The operation an OP value selects; 0x0 and 0x8..0xF select none (R56). -/
def HostOp.ofBits (op : BitVec 4) : Option HostOp :=
  match op.toNat with
  | 1 => some .init
  | 2 => some .setDisplay
  | 3 => some .update
  | 4 => some .clear
  | 5 => some .logOff
  | 6 => some .power
  | 7 => some .tick
  | _ => none

/-- The OP value of an operation (R56). -/
def HostOp.bits : HostOp → BitVec 4
  | .init => 1
  | .setDisplay => 2
  | .update => 3
  | .clear => 4
  | .logOff => 5
  | .power => 6
  | .tick => 7

/-- The instruction of an operation, with the operands R56 says it reads; the other fields are ignored (R61). -/
def HostOp.withOperands (op : HostOp) (w : CommandWord) : Instr :=
  match op with
  | .init => .init
  | .setDisplay => .setDisplay (digitsField w)
  | .update => .update (digitsField w) (periodField w)
  | .clear => .clear
  | .logOff => .logOff
  | .power => .power (onField w)
  | .tick => .tick

/-- The decoder: every word is an instruction or is refused by name (R60). Where both reasons apply the OP field's
is named (DEDUCED from the order of R60 and R125, unsafe, log 15). -/
def decode (w : CommandWord) : Except Reason Instr :=
  match HostOp.ofBits (opField w) with
  | none => .error .reservedOp
  | some op => if rsvField w = 0 then .ok (op.withOperands w) else .error .reservedBits

/-- A command word from its fields; RSV is 0 (R55). -/
def packWord (op : HostOp) (on : Bool) (d : Digits) (p : Word32) : CommandWord :=
  p ++ d.d5 ++ d.d4 ++ d.d3 ++ d.d2 ++ d.d1 ++ d.d0 ++ 0#11 ++ BitVec.ofBool on ++ op.bits

/-- Six zero digit fields: how an unused DIGITS field is written (R63). -/
def Digits.zero : Digits := ⟨0, 0, 0, 0, 0, 0⟩

/-- The encoder: the word of a host command, unused fields 0 (R63); the other operations have no word (R65). -/
def encode : Instr → Option CommandWord
  | .init => some (packWord .init false Digits.zero 0)
  | .setDisplay d => some (packWord .setDisplay false d 0)
  | .update d p => some (packWord .update false d p)
  | .clear => some (packWord .clear false Digits.zero 0)
  | .logOff => some (packWord .logOff false Digits.zero 0)
  | .power on => some (packWord .power on Digits.zero 0)
  | .tick => some (packWord .tick false Digits.zero 0)
  | .timerFire => none
  | .timerService => none
  | .serStep => none
  | .serStart _ => none
  | .setBlanking _ => none
  | .lookup _ _ => none
  | .compose _ _ _ _ => none
  | .nextGate => none
  | .blinkStep _ _ => none
  | .blinkReset => none
  | .tickBody _ => none
  | .publish _ _ => none

/-- The fields of a word that an operation reads, OP and RSV among them (R56, R60). -/
def HostOp.readMask : HostOp → CommandWord
  | .init => 0xFFEF
  | .setDisplay => 0xFFFFFFFFFFFFFFEF
  | .update => 0xFFFFFFFFFFFFFFFFFFFFFFEF
  | .clear => 0xFFEF
  | .logOff => 0xFFEF
  | .power => 0xFFFF
  | .tick => 0xFFEF

/-- The word whose low `nbits` bits are `w` and whose other bits are 0: the one format has 96 bits (R62), so a
longer row has none. -/
def tableWord (nbits w : Nat) : Option CommandWord :=
  if nbits ≤ 96 then some (BitVec.ofNat 96 (w % 2 ^ nbits)) else none

/-- What the decoder reads from an opcode-table row's bits. -/
def decodeTableWord (nbits w : Nat) : Option Instr :=
  match tableWord nbits w with
  | none => none
  | some cw =>
    match decode cw with
    | .ok i => some i
    | .error _ => none

/-- The instruction a textual call stands for, where its numerals are in range (R63). -/
def Call.toInstr (c : Call) : Option Instr :=
  if c.wellFormed then
    match c with
    | .init => some .init
    | .setDisplay [a, b, c, d, e, f] => some (.setDisplay (digitsOfInts a b c d e f))
    | .setDisplay _ => none
    | .update [a, b, c, d, e, f] p => some (.update (digitsOfInts a b c d e f) (BitVec.ofInt 32 p))
    | .update _ _ => none
    | .clear => some .clear
    | .logOff => some .logOff
    | .power on => some (.power on)
    | .tick => some .tick
  else none
where
  /-- Six numerals as digit fields, index 0 first (R63). -/
  digitsOfInts (a b c d e f : Int) : Digits :=
    ⟨BitVec.ofInt 8 a, BitVec.ofInt 8 b, BitVec.ofInt 8 c, BitVec.ofInt 8 d, BitVec.ofInt 8 e, BitVec.ofInt 8 f⟩

/-- The command word of a textual call (R63). -/
def Call.assemble (c : Call) : Option CommandWord := c.toInstr.bind encode

end Sys2Proof
end

