-- ==== Sys2Proof/Machine/State.lean ====
section
/-! DEFINITION. Every piece of state the spec gives the block (10_state.md), the chip's environment model
(60_exceptions.md R133), the model's own fields, and the state after reset. -/

namespace Sys2Proof.Machine

/-- The level of an output line: not driven, 0 or 1 (10_state.md R18). -/
inductive Level where
  | z
  | low
  | high
deriving DecidableEq, Repr

/-- The level that drives a bit. -/
def Level.ofBool : Bool → Level
  | false => .low
  | true => .high

/-- The four output lines (10_state.md R18). -/
inductive Pin where
  | data
  | clk
  | latchN
  | blankN
deriving DecidableEq, Repr

/-- The levels of the output lines (10_state.md R18). -/
structure Lines where
  data : Level
  clk : Level
  latchN : Level
  blankN : Level
deriving DecidableEq, Repr

/-- No line driven: the reset value (10_state.md R29). -/
def Lines.undriven : Lines := ⟨.z, .z, .z, .z⟩

/-- The published snapshot: DISP[0..5] and PER (10_state.md R11). -/
structure Snapshot where
  disp : Digits
  per : Word32
deriving DecidableEq, Repr

/-- The blink phase: VIS and the accumulator T (10_state.md R13). -/
structure Blink where
  vis : Bool
  acc : Accum
deriving DecidableEq, Repr

/-- The phase at reset and after every publish (44_blink.md R96). -/
def Blink.fresh : Blink := ⟨true, 0#33⟩

/-- SER_PH: the next pin event of a transmission (10_state.md R17). -/
inductive SerPhase where
  | data
  | clkHi
  | clkLo
  | latchLo
  | latchHi
deriving DecidableEq, Repr

/-- SER_BUSY, SER_FRAME, SER_IDX, SER_PH, and whether the last three have been written yet (10_state.md R17, R29;
60_exceptions.md R126; log 11). -/
structure Ser where
  busy : Bool
  frame : FrameWord
  idx : BitVec 5
  phase : SerPhase
  written : Bool
deriving DecidableEq, Repr

/-- The driver chip's shift register and output register (60_exceptions.md R133). -/
structure Chip where
  sr : FrameWord
  out : FrameWord
deriving DecidableEq, Repr

/-- DS (10_state.md R15). -/
inductive DriverState where
  | uninit
  | configured
  | running
  | stopped
deriving DecidableEq, Repr

/-- The events of the history (10_state.md R26). -/
inductive Event where
  | frame (f : FrameWord)
  | emit (pin : Pin) (level : Bool)
  | cmd (op : HostOp)
  | refused (r : Reason)
deriving DecidableEq, Repr

/-- The value of a value-returning internal function that was run by itself (DESIGN CHOICE, log 12). -/
inductive FnValue where
  | pattern (p : Byte)
  | frame (f : FrameWord)
  | gate (g : GateId)
  | visible (v : Bool)
deriving DecidableEq, Repr

/-- What a state reached by the rules meets and a model state can break: the invariants of 10_state.md R28 (its second,
T < 2^33, is T's type), and that a register which can be read has been written (R14, R17, 60_exceptions.md R126;
log 11). -/
inductive StateRule where
  | gateRange
  | uninitLines
  | idleLines
  | timerFlags
  | pendingArmed
  | busyRunning
  | stoppedFlags
  | lastMsWritten
  | serWritten
deriving DecidableEq, Repr

/-- Why a step faults: the causes of 60_exceptions.md R126. None is reachable from reset. -/
inductive Fault where
  /-- NEXT_GATE with G = 3. Raised by the gate sequencer. Safe: the block has no behaviour there (R12). -/
  | gatePointer
  /-- SER_START with SER_BUSY = 1. Raised by the serializer. Safe: unreachable (R70). -/
  | serStartBusy
  /-- COMPOSE with g = 3. Raised by the frame composer. Safe: unreachable (R85). -/
  | composeGate
  /-- SER_IDX outside 0..19. Raised by SER_STEP. Safe: no such frame bit exists (R17; DEDUCED, log 16). -/
  | serIndex
  /-- The state breaks an invariant of R28, or could read a register before its first write (R126). Raised by the step
  before the operation. Safe: unreachable (R28, R14, R17). -/
  | brokenInvariant (k : StateRule)
deriving DecidableEq, Repr

/-- Why there is no meaning. -/
inductive Refusal where
  /-- An instruction without a meaning yet. Raised by exec. Safe. -/
  | notModelled (mnemonic : String)
  /-- A SEG parameter that breaks 20_memory.md R31 or R32, or a T_SETTLE below its bound. Raised by the
  instantiation, before reset. Safe (R125 BAD_CONFIG; log 26). -/
  | badConfig
deriving DecidableEq, Repr

/-- The machine. The fields' rules are listed in INVENTORY.md under State. -/
structure State where
  cfg : Config
  snap : Snapshot
  gate : GateBits
  blink : Blink
  lastMs : Word32
  lastMsWritten : Bool
  ds : DriverState
  armed : Bool
  logoffPend : Bool
  firePend : Bool
  ser : Ser
  lines : Lines
  chip : Chip
  history : List Event
  refusal : Bool
  now : Word32
  port : List CommandWord
  schedule : List Turn
  draws : Nat
  value : Option FnValue
deriving DecidableEq, Repr

/-- The serializer at reset: not busy, the other registers not yet written (10_state.md R29); the values they hold
are a DESIGN CHOICE, unsafe (log 10). -/
def Ser.reset : Ser := ⟨false, 0#20, 0#5, .data, false⟩

/-- The state after reset of the instance with configuration `c` (70_reset_and_hazards.md R140, 10_state.md R29). -/
def State.resetWith (c : Config) : State where
  cfg := c
  snap := ⟨c.dispReset, c.perReset⟩
  gate := 0
  blink := Blink.fresh
  lastMs := 0
  lastMsWritten := false
  ds := .uninit
  armed := false
  logoffPend := false
  firePend := false
  ser := Ser.reset
  lines := Lines.undriven
  chip := ⟨Config.chipPowerUpSr, Config.chipPowerUpOut⟩
  history := []
  refusal := false
  now := 0
  port := []
  schedule := []
  draws := 0
  value := none

/-- The machine right after reset: the default instance (00_scope.md R5, log 2). -/
def State.reset : State := State.resetWith Config.default

end Sys2Proof.Machine
end

