-- ==== Sys2Proof/Machine/Chip.lean ====
section
/-! DEFINITION. The external driver chip as an observer of the output lines (60_exceptions.md R133). -/

namespace Sys2Proof.Machine

/-- Drive one line (00_scope.md R8). -/
def Lines.drive (l : Lines) (p : Pin) (b : Bool) : Lines :=
  match p with
  | .data => { l with data := .ofBool b }
  | .clk => { l with clk := .ofBool b }
  | .latchN => { l with latchN := .ofBool b }
  | .blankN => { l with blankN := .ofBool b }

/-- The bit the chip samples from a line; `float` is what an undriven line reads as (log 20). -/
def Level.sample (float : Bool) : Level → Bool
  | .z => float
  | .low => false
  | .high => true

/-- `(SR << 1 | DATA)[19:0]` (R133). -/
def shiftIn (sr : FrameWord) (bit : Bool) : FrameWord := (sr <<< 1) ||| (if bit then 1#20 else 0#20)

/-- What the chip does when line `p` is driven to `b` while the lines stand at `l`: it shifts on a CLK transition
from 0 to 1, and OUT <- SR as LATCH_N goes from 0 to 1, the end of the latch pulse (R133). -/
def Chip.observe (c : Chip) (l : Lines) (p : Pin) (b float : Bool) : Chip :=
  match p, b with
  | .clk, true => if l.clk = .low then { c with sr := shiftIn c.sr (l.data.sample float) } else c
  | .latchN, true => if l.latchN = .low then { c with out := c.sr } else c
  | _, _ => c

/-- OUT as an observer finds it: while LATCH_N = 0 it is the old value or SR, a free choice at each step
(R133; I2; log 19). -/
def State.chipOut (s : State) : FrameWord :=
  if s.lines.latchN = .low then (if Config.latchShowsSr s.draws then s.chip.sr else s.chip.out) else s.chip.out

/-- What the tubes see: `BLANK_N = 1 ? OUT : 0` (R133). -/
def State.tubes (s : State) : FrameWord := if s.lines.blankN = .high then s.chipOut else 0#20

/-- Gate g is energised: bit 16+g of what the tubes see (R133). -/
def State.gateLit (s : State) (g : GateId) : Bool :=
  s.tubes.getLsbD (match g with | .gate0 => 16 | .gate1 => 17 | .gate2 => 18)

/-- The segment lines as the low tube of the energised gate sees them (R133). -/
def State.lowSegments (s : State) : Byte := s.tubes.extractLsb' 0 8

/-- The segment lines as the high tube of the energised gate sees them (R133). -/
def State.highSegments (s : State) : Byte := s.tubes.extractLsb' 8 8

end Sys2Proof.Machine
end

