-- ==== Sys2Proof/Machine/Flags.lean ====
section
/-! DEFINITION. Every write of a flag (10_state.md R16, R23) and of DS (45_refresh_tick.md R106), and what a state
reached by the rules meets (10_state.md R28). -/

namespace Sys2Proof.Machine

/-- TIMER_FIRE: FIRE_PEND <- 1 (R104). -/
def State.firePending (s : State) : State := { s with firePend := true }

/-- TIMER_SERVICE: FIRE_PEND <- 0 (R105). -/
def State.fireServiced (s : State) : State := { s with firePend := false }

/-- LOG_OFF: if ARMED = 1 then LOGOFF_PEND <- 1 (R115). -/
def State.requestLogoff (s : State) : State := { s with logoffPend := s.logoffPend || s.armed }

/-- UPDATE in timer mode: LOGOFF_PEND <- 0, ARMED <- 1, and STOPPED becomes CONFIGURED (R113). -/
def State.arm (s : State) : State :=
  { s with logoffPend := false, armed := true, ds := if s.ds = .stopped then .configured else s.ds }

/-- The observed log-off: LOGOFF_PEND <- 0, ARMED <- 0, DS <- STOPPED (R105). -/
def State.teardown (s : State) : State := { s with logoffPend := false, armed := false, ds := .stopped }

/-- A frame was produced: CONFIGURED becomes RUNNING (R100, R106). -/
def State.enterRunning (s : State) : State := { s with ds := if s.ds = .configured then .running else s.ds }

/-- TIMER_FIRE is enabled (R104). -/
def State.timerEnabled (s : State) : Bool := decide (s.cfg.driveMode = .timer) && s.armed

/-- TIMER_SERVICE is enabled (R105). -/
def State.serviceEnabled (s : State) : Bool := s.firePend && !s.ser.busy

/-- The invariants of 10_state.md R28, and that LAST_MS is written once DS ≠ UNINIT (R14) and the serializer registers
once SER_BUSY = 1 (R17), each as a check. -/
def StateRule.holds (s : State) : StateRule → Bool
  | .gateRange => decide (s.gate ≠ 3)
  | .uninitLines => decide (s.ds = .uninit ↔ s.lines = Lines.undriven)
  | .idleLines => decide (s.ds ≠ .uninit ∧ s.ser.busy = false → s.lines.clk = .low ∧ s.lines.latchN = .high)
  | .timerFlags =>
    decide (s.armed = true ∨ s.logoffPend = true ∨ s.firePend = true → s.cfg.driveMode = .timer)
  | .pendingArmed => decide (s.firePend = true ∨ s.logoffPend = true → s.armed = true)
  | .busyRunning => decide (s.ser.busy = true → s.ds = .running)
  | .stoppedFlags =>
    decide (s.ds = .stopped → s.armed = false ∧ s.logoffPend = false ∧ s.firePend = false)
  | .lastMsWritten => decide (s.ds ≠ .uninit → s.lastMsWritten = true)
  | .serWritten => decide (s.ser.busy = true → s.ser.written = true)

/-- The rules of R28 in their order, then those of R14 and R17. -/
def StateRule.all : List StateRule :=
  [.gateRange, .uninitLines, .idleLines, .timerFlags, .pendingArmed, .busyRunning, .stoppedFlags, .lastMsWritten,
    .serWritten]

/-- The first of them that the state breaks. -/
def State.brokenRule (s : State) : Option StateRule := StateRule.all.find? fun k => !StateRule.holds s k

end Sys2Proof.Machine
end

