-- ==== Sys2Proof/Machine/Operands.lean ====
section
/-! DEFINITION. The operand forms: the tube pair of a gate, the elapsed time, the half-period and the period
argument of a publish. The command word's operand fields are in Decode.lean. -/

namespace Sys2Proof

/-- The gate a raw value names; 3 names none (10_state.md R12). -/
def GateId.ofBits (g : GateBits) : Option GateId :=
  match g.toNat with
  | 0 => some .gate0
  | 1 => some .gate1
  | 2 => some .gate2
  | _ => none

/-- The pointer value of a gate. -/
def GateId.bits : GateId → GateBits
  | .gate0 => 0
  | .gate1 => 1
  | .gate2 => 2

/-- The gate number. -/
def GateId.index : GateId → Nat
  | .gate0 => 0
  | .gate1 => 1
  | .gate2 => 2

/-- `(G + 1) mod 3` (43_gate_sequencer.md R90). -/
def GateId.succ : GateId → GateId
  | .gate0 => .gate1
  | .gate1 => .gate2
  | .gate2 => .gate0

/-- The low tube of a gate: index g (00_scope.md R4). -/
def GateId.lowSlot : GateId → Fin 6
  | .gate0 => 0
  | .gate1 => 1
  | .gate2 => 2

/-- The high tube of a gate: index g+3 (00_scope.md R4). -/
def GateId.highSlot : GateId → Fin 6
  | .gate0 => 3
  | .gate1 => 4
  | .gate2 => 5

namespace Machine

/-- `(n - LAST_MS) mod 2^32` (45_refresh_tick.md R100). -/
def elapsed (n last : Word32) : Word32 := n - last

/-- `H = P div 2` for P > 0 (44_blink.md R97). -/
def halfPeriod (p : Word32) : Nat := p.toNat / 2

/-- The period a publish leaves: the argument, or the old one for "keep" (46_host_commands.md R110). -/
def publishedPeriod (p : Option Word32) (old : Word32) : Word32 := p.getD old

end Machine

end Sys2Proof
end

