-- ==== Sys2Proof/Machine/Ops.lean ====
section
/-! DEFINITION. The named operations every meaning is built from: the event history, the refusal of a command, the
output lines, and the units' own functions. The block has no exception entry or return (60_exceptions.md R120, R129,
R130); a refused command is `refuse`, its one shared operation. -/

namespace Sys2Proof.Machine

/-- Append an event to the history (10_state.md R26). -/
def State.record (s : State) (e : Event) : State := { s with history := s.history ++ [e] }

/-- A refused command: `Refused(reason)` is recorded and the mark set; nothing else changes (60_exceptions.md R125,
30_encoding.md R60; log 7). -/
def State.refuse (s : State) (r : Reason) : State :=
  { s with history := s.history ++ [.refused r], refusal := true }

/-- An accepted command records `Cmd(OP)` after its own events (46_host_commands.md R117; DEDUCED, log 13). -/
def State.accept (s : State) (op : HostOp) : State := s.record (.cmd op)

/-- Emit(pin, level): drive a line, let the chip see it, record the event (00_scope.md R8, 60_exceptions.md R133). -/
def State.emit (s : State) (p : Pin) (b : Bool) : State :=
  { s with
    lines := s.lines.drive p b
    chip := s.chip.observe s.lines p b (Config.floatingBit s.draws)
    history := s.history ++ [.emit p b] }

/-- The outcome of an operation that may fault. -/
def finish : Except Fault State → Host.Outcome State Fault Refusal
  | .ok s => .next s
  | .error f => .fault f

/-- Write LAST_MS (10_state.md R14). -/
def State.writeLastMs (s : State) (n : Word32) : State := { s with lastMs := n, lastMsWritten := true }

/-- Leave the value of a function that was run by itself (log 12). -/
def State.give (s : State) (v : FnValue) : State := { s with value := some v }

/-- LOOKUP(slot, code): the ROM's entry, codes outside 0..16 clamped to blank (41_segment_lookup.md R80). -/
def lookup (c : Config) (slot : Fin 6) (code : Byte) : Byte :=
  if h : code.toNat < 17 then c.romRead slot ⟨code.toNat, h⟩ else c.romRead slot 16

/-- The dot bit of a frame: gate 1 and gate 2 carry one, at DOT_POS, when the dot is visible (30_encoding.md R51, R53). -/
def dotField (c : Config) (g : GateId) (v : Bool) : FrameWord :=
  match g, v with
  | .gate1, true => frameBit c.dotPos1.val
  | .gate2, true => frameBit c.dotPos2.val
  | _, _ => 0#20

/-- The frame formula (30_encoding.md R51). -/
def frameOf (c : Config) (g : GateId) (lo hi : Byte) (v : Bool) : FrameWord :=
  highField hi ||| lowField lo ||| frameBit (16 + g.index) ||| dotField c g v

/-- COMPOSE for a legal gate (42_frame_composer.md R85). -/
def composeFor (c : Config) (g : GateId) (dlo dhi : Byte) (v : Bool) : FrameWord :=
  frameOf c g (lookup c g.lowSlot dlo) (lookup c g.highSlot dhi) v

/-- COMPOSE(g, dlo, dhi, v): a fault for g = 3 (42_frame_composer.md R85). -/
def compose (c : Config) (g : GateBits) (dlo dhi : Byte) (v : Bool) : Except Fault FrameWord :=
  match GateId.ofBits g with
  | none => .error .composeGate
  | some k => .ok (composeFor c k dlo dhi v)

/-- COMPOSE(g, DISP[g], DISP[g+3], v) (45_refresh_tick.md R100, 42_frame_composer.md R86). -/
def composeSnapshot (c : Config) (g : GateId) (d : Digits) (v : Bool) : FrameWord :=
  composeFor c g (d.get g.lowSlot) (d.get g.highSlot) v

/-- NEXT_GATE: the pointer's value, then the pointer advanced (43_gate_sequencer.md R90). -/
def State.nextGate (s : State) : Except Fault (GateId × State) :=
  match GateId.ofBits s.gate with
  | none => .error .gatePointer
  | some g => .ok (g, { s with gate := g.succ.bits })

/-- BLINK_STEP on the phase alone: visibility, and the phase after it (44_blink.md R95). -/
def Blink.step (b : Blink) (p delta : Word32) : Bool × Blink :=
  if p = 0 then (true, b)
  else if p.slt 0 then (false, b)
  else if halfPeriod p ≤ b.acc.toNat then (!b.vis, ⟨!b.vis, 0#33 + delta.setWidth 33⟩)
  else (b.vis, ⟨b.vis, b.acc + delta.setWidth 33⟩)

/-- BLINK_RESET: VIS <- 1, T <- 0 (44_blink.md R96). -/
def State.blinkReset (s : State) : State := { s with blink := Blink.fresh }

/-- PUBLISH(d, p): DISP, PER unless "keep", and the blink phase, in one transition (46_host_commands.md R110). -/
def State.publish (s : State) (d : Digits) (p : Option Word32) : State :=
  { s with snap := ⟨d, publishedPeriod p s.snap.per⟩, blink := Blink.fresh }

/-- SET_BLANKING(enabled): BLANK_N <- (enabled ? 0 : 1) (40_serializer.md R74). -/
def State.setBlanking (s : State) (enabled : Bool) : State := s.emit .blankN (!enabled)

/-- The serializer registers as SER_START leaves them (40_serializer.md R70). -/
def Ser.started (f : FrameWord) : Ser := ⟨true, f, 19#5, .data, true⟩

/-- SER_START(f): accept a frame; a fault while one is being sent (40_serializer.md R70). -/
def State.serStart (s : State) (f : FrameWord) : Except Fault State :=
  if s.ser.busy then .error .serStartBusy
  else .ok { s with ser := Ser.started f, history := s.history ++ [.frame f] }

/-- SER_STEP's case on SER_PH: the next pin event (40_serializer.md R71). -/
def State.pinEvent (s : State) : State :=
  match s.ser.phase with
  | .data => { s.emit .data (s.ser.frame.getLsbD s.ser.idx.toNat) with ser := { s.ser with phase := .clkHi } }
  | .clkHi => { s.emit .clk true with ser := { s.ser with phase := .clkLo } }
  | .clkLo =>
    { s.emit .clk false with
      ser := if s.ser.idx = 0 then { s.ser with phase := .latchLo }
             else { s.ser with idx := s.ser.idx - 1, phase := .data } }
  | .latchLo => { s.emit .latchN false with ser := { s.ser with phase := .latchHi } }
  | .latchHi => { s.emit .latchN true with ser := { s.ser with busy := false } }

/-- SER_STEP while SER_BUSY = 1: a fault where SER_IDX is no frame bit (40_serializer.md R71; log 16). -/
def State.serStep (s : State) : Except Fault State :=
  if 19 < s.ser.idx.toNat then .error .serIndex
  else .ok s.pinEvent

/-- TICK_BODY(n): produce one frame (45_refresh_tick.md R100), in the rule's order. -/
def State.tickBody (s : State) (n : Word32) : Except Fault State :=
  match (s.writeLastMs n).nextGate with
  | .error f => .error f
  | .ok (g, s1) =>
    let step := s1.blink.step s1.snap.per (elapsed n s.lastMs)
    let s2 := { s1 with blink := step.2 }
    match s2.serStart (composeSnapshot s2.cfg g s2.snap.disp step.1) with
    | .error f => .error f
    | .ok s3 => .ok s3.enterRunning

/-- A TICK waits while a frame is being sent (46_host_commands.md R117 item 4); no other host command waits (R118). -/
def State.holdsCommand (s : State) : Instr → Bool
  | .tick => decide (s.ds ≠ .uninit) && decide (s.cfg.driveMode = .polled) && s.ser.busy
  | .init => false
  | .setDisplay _ => false
  | .update _ _ => false
  | .clear => false
  | .logOff => false
  | .power _ => false
  | .timerFire => false
  | .timerService => false
  | .serStep => false
  | .serStart _ => false
  | .setBlanking _ => false
  | .lookup _ _ => false
  | .compose _ _ _ _ => false
  | .nextGate => false
  | .blinkStep _ _ => false
  | .blinkReset => false
  | .tickBody _ => false
  | .publish _ _ => false

/-- A model instance with configuration `c`: refused BAD_CONFIG before reset where `c` is ill formed
(20_memory.md R31, 60_exceptions.md R125; log 26). -/
def instantiate (c : Config) : Host.Outcome State Fault Refusal :=
  if c.wellFormed then .next (State.resetWith c) else .refused .badConfig

end Sys2Proof.Machine
end

