-- ==== Sys2Proof/Machine/Commands.lean ====
section
/-! DEFINITION. The meanings of the host commands (46_host_commands.md; TICK is in Refresh.lean). A refused command
is a next state that records the refusal (60_exceptions.md R125; log 7). -/

namespace Sys2Proof.Machine

/-- The check every command but INIT makes first (46_host_commands.md R117 item 2). -/
def whenInitialized (s : State) (k : State → Host.Outcome State Fault Refusal) : Host.Outcome State Fault Refusal :=
  if s.ds = .uninit then .next (s.refuse .notInitialized) else k s

/-- INIT's lines: four Emits in the order R111 lists the lines (DEDUCED, log 13). -/
def State.initLines (s : State) : State :=
  (((s.emit .data false).emit .clk false).emit .latchN true).emit .blankN true

/-- INIT (R111). -/
def execInit (s : State) : Host.Outcome State Fault Refusal :=
  if s.ds ≠ .uninit then .next (s.refuse .reinit)
  else .next ({ s.initLines.writeLastMs s.now with ds := .configured }.accept .init)

/-- SET_DISPLAY (R112). -/
def execSetDisplay (d : Digits) (s : State) : Host.Outcome State Fault Refusal :=
  whenInitialized s fun s => .next ((s.publish d none).accept .setDisplay)

/-- UPDATE (R113). -/
def execUpdate (d : Digits) (p : Word32) (s : State) : Host.Outcome State Fault Refusal :=
  whenInitialized s fun s =>
    let s1 := s.publish d (some p)
    .next ((if s.cfg.driveMode = .timer then s1.arm else s1).accept .update)

/-- CLEAR (R114). -/
def execClear (s : State) : Host.Outcome State Fault Refusal :=
  whenInitialized s fun s => .next ((s.publish Digits.blank (some s.cfg.perReset)).accept .clear)

/-- LOG_OFF (R115). -/
def execLogOff (s : State) : Host.Outcome State Fault Refusal :=
  whenInitialized s fun s =>
    if s.cfg.driveMode ≠ .timer then .next (s.refuse .logOffInPolledMode)
    else .next ((s.publish s.cfg.dispReset (some s.cfg.perReset)).requestLogoff.accept .logOff)

/-- POWER (R116): SET_BLANKING(ON = 0). -/
def execPower (on : Bool) (s : State) : Host.Outcome State Fault Refusal :=
  whenInitialized s fun s => .next ((s.setBlanking (!on)).accept .power)

/-- SET_BLANKING run by itself (40_serializer.md R74). -/
def execSetBlanking (enabled : Bool) (s : State) : Host.Outcome State Fault Refusal := .next (s.setBlanking enabled)

/-- PUBLISH run by itself (R110). -/
def execPublish (d : Digits) (p : Option Word32) (s : State) : Host.Outcome State Fault Refusal :=
  .next (s.publish d p)

end Sys2Proof.Machine
end

