-- ==== Sys2Proof/Machine/Display.lean ====
section
/-! DEFINITION. The meanings of the datapath functions run by themselves: the segment ROM, the frame composer, the
gate sequencer and the blink controller. A function that returns a value leaves it in `value` (DESIGN CHOICE,
log 12). -/

namespace Sys2Proof.Machine

/-- LOOKUP (41_segment_lookup.md R80). -/
def execLookup (slot : Fin 6) (code : Byte) (s : State) : Host.Outcome State Fault Refusal :=
  .next (s.give (.pattern (lookup s.cfg slot code)))

/-- COMPOSE (42_frame_composer.md R85). -/
def execCompose (g : GateBits) (dlo dhi : Byte) (v : Bool) (s : State) : Host.Outcome State Fault Refusal :=
  match compose s.cfg g dlo dhi v with
  | .error f => .fault f
  | .ok f => .next (s.give (.frame f))

/-- NEXT_GATE (43_gate_sequencer.md R90). -/
def execNextGate (s : State) : Host.Outcome State Fault Refusal :=
  match s.nextGate with
  | .error f => .fault f
  | .ok (g, s1) => .next (s1.give (.gate g))

/-- BLINK_STEP (44_blink.md R95). -/
def execBlinkStep (p delta : Word32) (s : State) : Host.Outcome State Fault Refusal :=
  let r := s.blink.step p delta
  .next ({ s with blink := r.2 }.give (.visible r.1))

/-- BLINK_RESET (44_blink.md R96). -/
def execBlinkReset (s : State) : Host.Outcome State Fault Refusal := .next s.blinkReset

end Sys2Proof.Machine
end

