-- ==== Sys2Proof/Machine/Refresh.lean ====
section
/-! DEFINITION. The meanings of the refresh scheduler's operations (45_refresh_tick.md). -/

namespace Sys2Proof.Machine

/-- TICK (R102), its checks in the order of 46_host_commands.md R117. A held TICK changes nothing; a TICK before
TICK_MS has elapsed is accepted and changes no state but the history's Cmd (log 14). -/
def execTick (s : State) : Host.Outcome State Fault Refusal :=
  whenInitialized s fun s =>
    if s.cfg.driveMode ≠ .polled then .next (s.refuse .tickInTimerMode)
    else if s.ser.busy then .next s
    else
      if (elapsed s.now s.lastMs).toNat < s.cfg.tickMs then .next (s.accept .tick)
      else
        match s.tickBody s.now with
        | .error f => .fault f
        | .ok s1 => .next (s1.accept .tick)

/-- TIMER_FIRE (R104); where it is not enabled the turn passes (log 8). -/
def execTimerFire (s : State) : Host.Outcome State Fault Refusal :=
  if s.timerEnabled then .next s.firePending else .next s

/-- TIMER_SERVICE (R105); where it is not enabled the turn passes (log 8). -/
def execTimerService (s : State) : Host.Outcome State Fault Refusal :=
  if s.serviceEnabled then
    if s.logoffPend then .next s.fireServiced.teardown else finish (s.fireServiced.tickBody s.now)
  else .next s

/-- TICK_BODY run by itself (R100). -/
def execTickBody (n : Word32) (s : State) : Host.Outcome State Fault Refusal := finish (s.tickBody n)

end Sys2Proof.Machine
end

