-- ==== Sys2Proof/Machine/Serializer.lean ====
section
/-! DEFINITION. The meanings of the serializer's operations (40_serializer.md). -/

namespace Sys2Proof.Machine

/-- SER_STEP (R71); where SER_BUSY = 0 it is not enabled and the turn passes (log 8). -/
def execSerStep (s : State) : Host.Outcome State Fault Refusal :=
  if s.ser.busy then finish s.serStep else .next s

/-- SER_START run by itself (R70). -/
def execSerStart (f : FrameWord) (s : State) : Host.Outcome State Fault Refusal := finish (s.serStart f)

end Sys2Proof.Machine
end

