-- ==== Sys2Proof/Machine/Dispatch.lean ====
section
/-! DEFINITION. One arm per operation, each one call of its meaning. -/

namespace Sys2Proof.Machine

def exec (i : Instr) (s : State) : Host.Outcome State Fault Refusal :=
  match i with
  | .init => Sys2Proof.Machine.execInit s
  | .setDisplay d => Sys2Proof.Machine.execSetDisplay d s
  | .update d p => Sys2Proof.Machine.execUpdate d p s
  | .clear => Sys2Proof.Machine.execClear s
  | .logOff => Sys2Proof.Machine.execLogOff s
  | .power on => Sys2Proof.Machine.execPower on s
  | .tick => Sys2Proof.Machine.execTick s
  | .timerFire => Sys2Proof.Machine.execTimerFire s
  | .timerService => Sys2Proof.Machine.execTimerService s
  | .serStep => Sys2Proof.Machine.execSerStep s
  | .serStart f => Sys2Proof.Machine.execSerStart f s
  | .setBlanking enabled => Sys2Proof.Machine.execSetBlanking enabled s
  | .lookup slot code => Sys2Proof.Machine.execLookup slot code s
  | .compose g dlo dhi v => Sys2Proof.Machine.execCompose g dlo dhi v s
  | .nextGate => Sys2Proof.Machine.execNextGate s
  | .blinkStep p delta => Sys2Proof.Machine.execBlinkStep p delta s
  | .blinkReset => Sys2Proof.Machine.execBlinkReset s
  | .tickBody n => Sys2Proof.Machine.execTickBody n s
  | .publish d p => Sys2Proof.Machine.execPublish d p s

end Sys2Proof.Machine
end

