-- ==== Sys2Proof/Machine/Turns.lean ====
section
/-! DEFINITION. What one turn of the interleaving does: the turn taken from the schedule, the command word taken from
the port, and the operation of the agent that moves (10_state.md R10, 20_memory.md R38, 46_host_commands.md R117). -/

namespace Sys2Proof.Machine

/-- The next turn: the schedule's first, or a free one where none is placed (I10, I11; log 4). -/
def State.nextTurn (s : State) : Turn :=
  match s.schedule with
  | t :: _ => t
  | [] => Config.freeTurn s.draws

/-- The state as a turn's operation finds it: the turn taken, NOW at the turn's level, and the draw counter
advanced (log 4, log 5). -/
def State.beginTurn (s : State) : State :=
  { s with schedule := s.schedule.tail, now := s.nextTurn.now, draws := s.draws + 1 }

/-- The command word of a HOST turn: the port's oldest, or a free one where none waits (log 6). -/
def State.portWord (s : State) : CommandWord :=
  match s.port with
  | w :: _ => w
  | [] => Config.freeWord s.draws

/-- A HOST turn on word `w` (46_host_commands.md R117): a reserved word is refused, a held TICK stays on the port,
and any other command leaves the port and runs. -/
def hostTurn (w : CommandWord) (s : State) : Host.Outcome State Fault Refusal :=
  let rest := s.port.tail
  match decode w with
  | .error r => .next ({ s with port := rest }.refuse r)
  | .ok i => if s.holdsCommand i then .next { s with port := w :: rest } else exec i { s with port := rest }

/-- The operation of the agent that moves (10_state.md R10). -/
def agentTurn (a : Agent) (s : State) : Host.Outcome State Fault Refusal :=
  match a with
  | .host => hostTurn s.portWord s
  | .timer => exec .timerFire s
  | .refresh => exec .timerService s
  | .serializer => exec .serStep s

/-- One turn; a state that breaks an invariant of 10_state.md R28, or could read a register before its first write, is
a fault (R126; log 11, log 17). -/
def State.takeTurn (s : State) : Host.Outcome State Fault Refusal :=
  match s.brokenRule with
  | some k => .fault (.brokenInvariant k)
  | none => agentTurn s.nextTurn.agent s.beginTurn

/-- `s` with the command of a table row's bits waiting first on the port, and a HOST turn scheduled first at the
present level of NOW. -/
def placeWord (s : State) (nbits w : Nat) : State :=
  { s with
    port := BitVec.ofNat 96 (w % 2 ^ nbits) :: s.port
    schedule := ⟨.host, s.now⟩ :: s.schedule }

end Sys2Proof.Machine
end

