-- ==== Sys2Proof/Machine/Step.lean ====
section
/-! DEFINITION. One step of the machine is one turn of one agent (00_scope.md R9). -/

namespace Sys2Proof.Machine

/-- One step. -/
def step : State → Host.Outcome State Fault Refusal := fun s => s.takeTurn

/-- `s` with a table row's instruction where the next step takes its command. -/
def State.withFetchWord (s : State) (nbits w : Nat) : State := placeWord s nbits w

end Sys2Proof.Machine
end

