-- ==== Sys2Proof/Machine/Assembler.lean ====
section
/-! DEFINITION. The textual syntax of the host commands: from characters to a call, and to its word
(30_encoding.md R63). What the rule leaves open (spaces, the case of hexadecimal digits) is log 24. -/

namespace Sys2Proof.Assembler

/-- A token: a maximal run of name or numeral characters, or a punctuation mark. -/
inductive Token where
  | word (cs : List Char)
  | mark (c : Char)
deriving DecidableEq, Repr

/-- The punctuation of a call (R63). -/
def isMark (c : Char) : Bool := c == '(' || c == ')' || c == '[' || c == ']' || c == ','

/-- Put a finished run, held in reverse, before the tokens that follow it. -/
def flush (run : List Char) (ts : List Token) : List Token :=
  if run.isEmpty then ts else .word run.reverse :: ts

/-- The tokens of a text; `run` is the run being read, in reverse. -/
def tokens (run : List Char) : List Char → List Token
  | [] => flush run []
  | c :: cs =>
    if c == ' ' then flush run (tokens [] cs)
    else if isMark c then flush run (.mark c :: tokens [] cs)
    else tokens (c :: run) cs

/-- The value of a digit character, decimal or hexadecimal. -/
def digitValue (c : Char) : Option Nat :=
  if '0' ≤ c ∧ c ≤ '9' then some (c.toNat - '0'.toNat)
  else if 'a' ≤ c ∧ c ≤ 'f' then some (c.toNat - 'a'.toNat + 10)
  else if 'A' ≤ c ∧ c ≤ 'F' then some (c.toNat - 'A'.toNat + 10)
  else none

/-- The value of a run of digits of a base, read on from `acc`. -/
def digitsValue (base acc : Nat) : List Char → Option Nat
  | [] => some acc
  | c :: cs =>
    match digitValue c with
    | none => none
    | some d => if d < base then digitsValue base (base * acc + d) cs else none

/-- An unsigned numeral: `0x` and hexadecimal digits, or decimal digits (R63). -/
def natural : List Char → Option Nat
  | [] => none
  | ['0', 'x'] => none
  | '0' :: 'x' :: cs => digitsValue 16 0 cs
  | cs => digitsValue 10 0 cs

/-- A numeral with an optional minus sign (R63). -/
def numeral : List Char → Option Int
  | '-' :: cs => (natural cs).map fun n => -(n : Int)
  | cs => (natural cs).map fun n => (n : Int)

/-- Numerals parted by commas up to a closing bracket, and the tokens after it. -/
def numerals : List Token → Option (List Int × List Token)
  | .word w :: .mark ']' :: ts => (numeral w).map fun n => ([n], ts)
  | .word w :: .mark ',' :: ts =>
    match numeral w, numerals ts with
    | some n, some (ns, rest) => some (n :: ns, rest)
    | _, _ => none
  | _ => none

/-- The call that a name and the tokens after it spell (R63). -/
def callOf (name : List Char) (args : List Token) : Option Call :=
  if name = "init".toList then
    if args = [.mark '(', .mark ')'] then some .init else none
  else if name = "clear".toList then
    if args = [.mark '(', .mark ')'] then some .clear else none
  else if name = "log_off".toList then
    if args = [.mark '(', .mark ')'] then some .logOff else none
  else if name = "tick".toList then
    if args = [.mark '(', .mark ')'] then some .tick else none
  else if name = "power".toList then
    if args = [.mark '(', .word "true".toList, .mark ')'] then some (.power true)
    else if args = [.mark '(', .word "false".toList, .mark ')'] then some (.power false)
    else none
  else if name = "set_display".toList then
    match args with
    | .mark '(' :: .mark '[' :: ts =>
      match numerals ts with
      | some (ds, [.mark ')']) => some (.setDisplay ds)
      | _ => none
    | _ => none
  else if name = "update".toList then
    match args with
    | .mark '(' :: .mark '[' :: ts =>
      match numerals ts with
      | some (ds, [.mark ',', .word w, .mark ')']) => (numeral w).map (Call.update ds)
      | _ => none
    | _ => none
  else none

/-- The call a text spells (R63). -/
def parse (text : List Char) : Option Call :=
  match tokens [] text with
  | .word name :: args => callOf name args
  | _ => none

/-- The command word a text stands for (R63). -/
def assembleText (text : List Char) : Option CommandWord := (parse text).bind Call.assemble

end Sys2Proof.Assembler
end

