-- ==== Sys2Proof/Safety.lean ====
section
/-! DEFINITION. What a safe state and a safe run are, in the terms the statements use. -/

namespace Sys2Proof.Safety

open Sys2Proof Sys2Proof.Machine

/-- The invariants of 10_state.md R28, with what makes them inductive: the lines while a frame is sent (R71), the
registers that hold values by then (R14, R17), what R106 says of UNINIT and STOPPED, and that the snapshot, G and the
blink phase still hold their reset values in UNINIT (46_host_commands.md R111). -/
structure Invariants (s : State) : Prop where
  gate_legal : s.gate ≠ 3
  uninit_lines : s.ds = .uninit ↔ s.lines = Lines.undriven
  driven : s.ds ≠ .uninit → s.lines.data ≠ .z ∧ s.lines.clk ≠ .z ∧ s.lines.latchN ≠ .z ∧ s.lines.blankN ≠ .z
  last_written : s.ds ≠ .uninit → s.lastMsWritten = true
  uninit_disarmed : s.ds = .uninit → s.armed = false
  uninit_reset : s.ds = .uninit →
    s.snap = ⟨s.cfg.dispReset, s.cfg.perReset⟩ ∧ s.gate = 0 ∧ s.blink = Blink.fresh
  idle_lines : s.ds ≠ .uninit → s.ser.busy = false → s.lines.clk = .low ∧ s.lines.latchN = .high
  busy_running : s.ser.busy = true → s.ds = .running
  busy_written : s.ser.busy = true → s.ser.written = true
  busy_index : s.ser.busy = true → s.ser.idx.toNat ≤ 19
  busy_latch : s.ser.busy = true → s.ser.phase = .latchLo ∨ s.ser.phase = .latchHi → s.ser.idx = 0
  busy_clk : s.ser.busy = true → s.lines.clk = if s.ser.phase = .clkLo then .high else .low
  busy_latchN : s.ser.busy = true → s.lines.latchN = if s.ser.phase = .latchHi then .low else .high
  timer_flags : s.armed = true ∨ s.logoffPend = true ∨ s.firePend = true → s.cfg.driveMode = .timer
  pending_armed : s.firePend = true ∨ s.logoffPend = true → s.armed = true
  stopped_flags : s.ds = .stopped → s.armed = false ∧ s.logoffPend = false ∧ s.firePend = false
  stopped_timer : s.ds = .stopped → s.cfg.driveMode = .timer

/-- The frames of a history, oldest first (10_state.md R26). -/
def framesOf : List Event → List FrameWord
  | [] => []
  | .frame f :: es => f :: framesOf es
  | .emit _ _ :: es => framesOf es
  | .cmd _ :: es => framesOf es
  | .refused _ :: es => framesOf es

/-- The last frame the serializer accepted. -/
def lastFrame (es : List Event) : Option FrameWord := (framesOf es).getLast?

/-- How many bits of the frame in progress have had their rising CLK edge (40_serializer.md R71). -/
def clocked (r : Ser) : Nat :=
  match r.phase with
  | .data => 19 - r.idx.toNat
  | .clkHi => 19 - r.idx.toNat
  | .clkLo => 20 - r.idx.toNat
  | .latchLo => 20
  | .latchHi => 20

/-- The chip follows the serializer (60_exceptions.md R133, 10_state.md R27): while a frame is sent, it is the last
one accepted and the chip's shift register ends in its bits already clocked; otherwise SR and OUT are the last frame
accepted and DATA its bit 0 (40_serializer.md R75). -/
structure Tracks (s : State) : Prop where
  sending : s.ser.busy = true → lastFrame s.history = some s.ser.frame
  shifted : s.ser.busy = true →
    s.chip.sr.toNat % 2 ^ clocked s.ser = s.ser.frame.toNat / 2 ^ (20 - clocked s.ser)
  settled : s.ser.busy = true → s.ser.phase ≠ .data → s.lines.data = .ofBool (s.ser.frame.getLsbD s.ser.idx.toNat)
  sent : s.ser.busy = false → ∀ f, lastFrame s.history = some f →
    s.chip.sr = f ∧ s.chip.out = f ∧ s.lines.data = .ofBool (f.getLsbD 0)

/-- A log-off has been accepted and no later UPDATE: an armed timer has a log-off pending (45_refresh_tick.md R109). -/
structure Quiet (s : State) : Prop where
  timer_mode : s.cfg.driveMode = .timer
  initialized : s.ds ≠ .uninit
  armed_pending : s.armed = true → s.logoffPend = true

/-- A frame as 30_encoding.md R50, R52 and R53 lay it out, for the default DOT_POS: bit 19 clear, one gate bit, and
no dot bit but the gate's own. -/
def frameLaidOut (f : FrameWord) : Prop :=
  f.getLsbD 19 = false ∧
  ((f.getLsbD 16 = true ∧ f.getLsbD 17 = false ∧ f.getLsbD 18 = false ∧ f.getLsbD 7 = false ∧ f.getLsbD 15 = false) ∨
   (f.getLsbD 16 = false ∧ f.getLsbD 17 = true ∧ f.getLsbD 18 = false ∧ f.getLsbD 15 = false) ∨
   (f.getLsbD 16 = false ∧ f.getLsbD 17 = false ∧ f.getLsbD 18 = true ∧ f.getLsbD 7 = false))

/-- A configuration with a legal SEG and the default dot bits (00_scope.md R5). -/
def defaultDots (c : Config) : Prop := c.segOk = true ∧ c.dotPos1 = 7 ∧ c.dotPos2 = 15

/-- SER_STEPs one after another (40_serializer.md R71). -/
def serRun : Nat → State → Host.Outcome State Fault Refusal
  | 0, s => .next s
  | k + 1, s =>
    match exec .serStep s with
    | .next t => serRun k t
    | .fault f => .fault f
    | .refused r => .refused r

/-- How many SER_STEPs the transmission in progress still takes (40_serializer.md R71): 62 from SER_START. -/
def serRemaining (r : Ser) : Nat :=
  if r.busy then
    match r.phase with
    | .data => 3 * r.idx.toNat + 5
    | .clkHi => 3 * r.idx.toNat + 4
    | .clkLo => 3 * r.idx.toNat + 3
    | .latchLo => 2
    | .latchHi => 1
  else 0

/-- The three pin events of frame bit `k` (40_serializer.md R71). -/
def bitEvents (f : FrameWord) (k : Nat) : List Event := [.emit .data (f.getLsbD k), .emit .clk true, .emit .clk false]

/-- The 62 pin events of one transmission, bit 19 first (40_serializer.md R71). -/
def pinEvents (f : FrameWord) : List Event :=
  (List.range 20).flatMap (fun k => bitEvents f (19 - k)) ++ [.emit .latchN false, .emit .latchN true]

/-- A publish was accepted among these events (00_scope.md glossary). -/
def published (es : List Event) : Prop :=
  Event.cmd .setDisplay ∈ es ∨ Event.cmd .update ∈ es ∨ Event.cmd .clear ∈ es ∨ Event.cmd .logOff ∈ es

/-- The gate `k` frames after gate `g` (43_gate_sequencer.md R91). -/
def gateAfter (g : GateId) : Nat → GateId
  | 0 => g
  | k + 1 => gateAfter g.succ k

/-- The blink phase after `k` frame-producing ticks with a constant delta (44_blink.md R98). -/
def blinkAfter (p delta : Word32) : Nat → Blink → Blink
  | 0, b => b
  | k + 1, b => blinkAfter p delta k (b.step p delta).2

/-- The dot's visibility on tick `k` after a publish, with a constant delta (44_blink.md R98). -/
def visibleOn (p delta : Word32) (k : Nat) : Bool := ((blinkAfter p delta k Blink.fresh).step p delta).1

/-- Two states agree on everything a frame is made from: SEG and DOT_POS, the snapshot, the gate pointer, the blink
phase and LAST_MS (45_refresh_tick.md R100). -/
structure SameDisplay (s t : State) : Prop where
  rom : ∀ slot code, s.cfg.romRead slot code = t.cfg.romRead slot code
  dot1 : s.cfg.dotPos1 = t.cfg.dotPos1
  dot2 : s.cfg.dotPos2 = t.cfg.dotPos2
  snap : s.snap = t.snap
  gate : s.gate = t.gate
  blink : s.blink = t.blink
  last : s.lastMs = t.lastMs

/-- The least time of one transmission, in nanoseconds: 61 x T_SETTLE (70_reset_and_hazards.md R143). No operation
reads it. -/
def transmissionBudget (c : Config) : Nat := 61 * c.settleNs

/-- A TIMER, REFRESH or SERIALIZER operation is enabled (45_refresh_tick.md R104, R105; 40_serializer.md R71). -/
def enabled (a : Agent) (s : State) : Bool :=
  match a with
  | .host => true
  | .timer => s.timerEnabled
  | .refresh => s.serviceEnabled
  | .serializer => s.ser.busy

/-- Weak fairness of the agents that are not the host (60_exceptions.md R132): an operation that stays enabled gets
its turn. A claim that needs it takes it as a premise (log 23). -/
def WeaklyFair (run : Nat → State) : Prop :=
  ∀ a, a ≠ .host → ∀ n, (∀ m, n ≤ m → enabled a (run m) = true) → ∃ m, n ≤ m ∧ (run m).nextTurn.agent = a

/-- No refusal is recorded: the premise 60_exceptions.md R125 asks of a claim about a run. -/
def unrefused (s : State) : Prop := s.refusal = false

end Sys2Proof.Safety
end

