-- ==== Sys2Proof/Certificates/Slice0/Obligations.lean ====
section
/-! DEFINITION. The statements for the provers. Each docstring names the rules of spec/ it formalises. A statement
whose docstring names a log entry says there what is the model's own choice. -/

open Sys2Proof Sys2Proof.Machine Sys2Proof.Safety

/-! ### Reset and configuration -/

/-- R140. Every piece of state at its stated reset value, for every instance; "no value" is a cleared written flag
(log 11), and what the register holds is not stated here.
The inputs, the chip and the model's own fields are not stated here. -/
def Obligations.ResetStateHoldsTheStatedValues : Prop :=
  State.reset = State.resetWith Config.default ∧
  ∀ c : Config, ∀ s : State, s = State.resetWith c →
    s.cfg = c ∧ s.snap.disp = c.dispReset ∧ s.snap.per = c.perReset ∧
    s.gate = 0 ∧ s.blink.vis = true ∧ s.blink.acc = 0 ∧ s.ds = .uninit ∧
    s.armed = false ∧ s.logoffPend = false ∧ s.firePend = false ∧ s.ser.busy = false ∧
    s.lines.data = .z ∧ s.lines.clk = .z ∧ s.lines.latchN = .z ∧ s.lines.blankN = .z ∧
    s.lastMsWritten = false ∧ s.ser.written = false ∧ s.history = [] ∧ s.refusal = false

/-- R5, R31, R32, R81. The reset instance has R5's defaults, and whatever its free parameters are it is well formed
and its table is uniform over the slots. The free parameters are the model's choice (log 2). -/
def Obligations.DefaultInstanceIsWellFormedAndUniform : Prop :=
  Config.default.tickMs = 5 ∧ Config.default.dotPos1 = 7 ∧ Config.default.dotPos2 = 15 ∧
  Config.default.dispReset = ⟨16, 16, 16, 16, 16, 16⟩ ∧ Config.default.perReset.toInt = -1 ∧
  2000 ≤ Config.default.settleNs ∧ Config.default.wellFormed = true ∧
  ∀ slot slot' code, Config.default.romRead slot code = Config.default.romRead slot' code

/-- R31. A table that breaks either condition is refused at instantiation; a well formed configuration gives its reset
state. -/
def Obligations.BadTableIsRefusedAtInstantiation : Prop :=
  ∀ c : Config,
    ((∃ slot, c.romRead slot 16 ≠ 0) → instantiate c = .refused .badConfig) ∧
    ((∃ slot code, (c.romRead slot code).getLsbD 7 = true) → instantiate c = .refused .badConfig) ∧
    (c.wellFormed = true → instantiate c = .next (State.resetWith c))

/-- R32. SEG_V2(slot, code)[pi(b)] = SEG_V1(slot, code)[b], and pi fixes bit 7. -/
def Obligations.VariantTablesDifferByTheBitPermutation : Prop :=
  ∀ c : Config, c.permOk = true →
    c.perm[7] = 7 ∧
    ∀ slot code (b : Fin 8),
      (c.segOf .v2 slot code).getLsbD c.perm[b].val = (c.segOf .v1 slot code).getLsbD b.val

/-! ### Encoding -/

/-- R55, R56, R63, R65. Every host command has a word, no other operation has one, and the word decodes to it. -/
def Obligations.EncodedCommandsDecodeToThemselves : Prop :=
  ∀ i : Instr,
    ((encode i).isSome = i.hostOp.isSome) ∧ ∀ w, encode i = some w → decode w = .ok i

/-- R56, R61, R63. A word that decodes is, on the fields its operation reads, the word of what it decodes to. -/
def Obligations.DecodedWordsEncodeToTheirReadFields : Prop :=
  ∀ (w : CommandWord) (i : Instr), decode w = .ok i →
    ∃ op, i.hostOp = some op ∧ encode i = some (w &&& op.readMask)

/-- R60. The decoder refuses exactly the words with a reserved OP or a nonzero RSV. -/
def Obligations.DecoderRefusesExactlyTheReservedWords : Prop :=
  ∀ w : CommandWord,
    (∃ r, decode w = .error r) ↔
      (w.toNat % 16 = 0 ∨ 8 ≤ w.toNat % 16 ∨ w.toNat / 32 % 2048 ≠ 0)

/-- R56, R58, R59. Each row of the OP table, selected by CW & MASK = MATCH, with the operands the row reads; the
reserved OP values are refused. -/
def Obligations.MaskedMatchSelectsTheOperation : Prop :=
  ∀ w : CommandWord, ∀ d : Digits,
    d = ⟨w.extractLsb' 16 8, w.extractLsb' 24 8, w.extractLsb' 32 8, w.extractLsb' 40 8, w.extractLsb' 48 8,
      w.extractLsb' 56 8⟩ →
    (w &&& 0xFFEF = 1 → decode w = .ok .init) ∧
    (w &&& 0xFFEF = 2 → decode w = .ok (.setDisplay d)) ∧
    (w &&& 0xFFEF = 3 → decode w = .ok (.update d (w.extractLsb' 64 32))) ∧
    (w &&& 0xFFEF = 4 → decode w = .ok .clear) ∧
    (w &&& 0xFFEF = 5 → decode w = .ok .logOff) ∧
    (w &&& 0xFFEF = 6 → decode w = .ok (.power (w.getLsbD 4))) ∧
    (w &&& 0xFFEF = 7 → decode w = .ok .tick) ∧
    (w.toNat % 16 = 0 ∨ 8 ≤ w.toNat % 16 → ∃ r, decode w = .error r)

/-- R61. Fields an operation does not read may hold any value: INIT, CLEAR, LOG_OFF and TICK read OP and RSV alone,
POWER also ON, SET_DISPLAY also DIGITS, UPDATE also DIGITS and PER. -/
def Obligations.UnreadOperandFieldsAreIgnored : Prop :=
  ∀ w w' : CommandWord,
    ((w.toNat % 16 = 1 ∨ w.toNat % 16 = 4 ∨ w.toNat % 16 = 5 ∨ w.toNat % 16 = 7) →
      w &&& 0xFFEF = w' &&& 0xFFEF → decode w = decode w') ∧
    (w.toNat % 16 = 6 → w &&& 0xFFFF = w' &&& 0xFFFF → decode w = decode w') ∧
    (w.toNat % 16 = 2 → w &&& 0xFFFFFFFFFFFFFFEF = w' &&& 0xFFFFFFFFFFFFFFEF → decode w = decode w') ∧
    (w.toNat % 16 = 3 →
      w &&& 0xFFFFFFFFFFFFFFFFFFFFFFEF = w' &&& 0xFFFFFFFFFFFFFFFFFFFFFFEF → decode w = decode w')

/-- R55, R56, R63. The words of the spec's examples, written out. -/
def Obligations.ExampleWordsDecodeToTheirCommands : Prop :=
  decode 0x000000000000000000000001 = .ok .init ∧
  decode 0x000000000605040302010002 = .ok (.setDisplay ⟨1, 2, 3, 4, 5, 6⟩) ∧
  decode 0x000003E80504030201000003 = .ok (.update ⟨0, 1, 2, 3, 4, 5⟩ 1000) ∧
  decode 0xFFFFFFFF1010101010100003 = .ok (.update ⟨16, 16, 16, 16, 16, 16⟩ (-1)) ∧
  decode 0x000000000605040302010004 = .ok .clear ∧
  decode 0x000000000000000000000005 = .ok .logOff ∧
  decode 0x000000000000000000000006 = .ok (.power false) ∧
  decode 0x000000000000000000000016 = .ok (.power true) ∧
  decode 0x000000000000000000000007 = .ok .tick ∧
  decode 0x000000000000000000000022 = .error .reservedBits ∧
  decode 0x00000000101004021010FFE3 = .error .reservedBits ∧
  decode 0x000000000000000000000008 = .error .reservedOp ∧
  decode 0x000000000000000000000000 = .error .reservedOp

/-- R63. A call with six numerals in 0..255, and a period in range, has a word whose fields are those numerals. -/
def Obligations.WellFormedCallsAssembleToTheirFields : Prop :=
  ∀ a b c d e f p : Int,
    (∀ x ∈ [a, b, c, d, e, f], 0 ≤ x ∧ x ≤ 255) → -2147483648 ≤ p → p ≤ 2147483647 →
    ∃ w v : CommandWord,
      Call.assemble (.update [a, b, c, d, e, f] p) = some w ∧ w.toNat % 65536 = 3 ∧
      Call.assemble (.setDisplay [a, b, c, d, e, f]) = some v ∧ v.toNat % 65536 = 2 ∧
      (w.extractLsb' 64 32).toInt = p ∧ (v.extractLsb' 64 32) = 0 ∧
      ∀ i : Fin 6,
        ((w.extractLsb' (16 + 8 * i.val) 8).toNat : Int) = [a, b, c, d, e, f][i] ∧
        ((v.extractLsb' (16 + 8 * i.val) 8).toNat : Int) = [a, b, c, d, e, f][i]

/-! ### One step -/

/-- R9, R10, R117. A HOST turn whose word decodes to a command that is not held runs that command, with the turn and
the word taken, NOW at the turn's level, and the model's draw counter advanced (log 4, log 5, log 6). -/
def Obligations.StepRunsTheDecodedCommand : Prop :=
  ∀ (s : State) (n : Word32) (ts : List Turn) (w : CommandWord) (ws : List CommandWord) (i : Instr),
    s.brokenRule = none → s.schedule = ⟨.host, n⟩ :: ts → s.port = w :: ws → decode w = .ok i →
    ¬ (i = .tick ∧ s.ds ≠ .uninit ∧ s.cfg.driveMode = .polled ∧ s.ser.busy = true) →
    step s = exec i { s with schedule := ts, port := ws, now := n, draws := s.draws + 1 }

/-- R9, R10. A turn of another agent runs that agent's operation (log 4, log 5). -/
def Obligations.StepRunsTheAgentOfItsTurn : Prop :=
  ∀ (s : State) (n : Word32) (ts : List Turn), s.brokenRule = none →
    (s.schedule = ⟨.timer, n⟩ :: ts →
      step s = exec .timerFire { s with schedule := ts, now := n, draws := s.draws + 1 }) ∧
    (s.schedule = ⟨.refresh, n⟩ :: ts →
      step s = exec .timerService { s with schedule := ts, now := n, draws := s.draws + 1 }) ∧
    (s.schedule = ⟨.serializer, n⟩ :: ts →
      step s = exec .serStep { s with schedule := ts, now := n, draws := s.draws + 1 })

/-- R19, R38 (the model's choice, log 4 and log 6). Where no turn is placed the environment's free one is taken, and
where no word waits the host's free one is. -/
def Obligations.FreeTurnsAndWordsStandInForAbsentOnes : Prop :=
  ∀ s : State,
    (s.schedule = [] → step s = step { s with schedule := [Config.freeTurn s.draws] }) ∧
    (s.port = [] → ∀ n ts, s.schedule = ⟨.host, n⟩ :: ts →
      step s = step { s with port := [Config.freeWord (s.draws + 1)] })

/-- R102, R117. A TICK that comes while a frame is being sent is held: nothing changes, and its word stays first on
the port (log 6). -/
def Obligations.HeldTickStaysOnThePort : Prop :=
  ∀ (s : State) (n : Word32) (ts : List Turn) (w : CommandWord) (ws : List CommandWord),
    s.brokenRule = none → s.schedule = ⟨.host, n⟩ :: ts → s.port = w :: ws → decode w = .ok .tick →
    s.ds ≠ .uninit → s.cfg.driveMode = .polled → s.ser.busy = true →
    step s = .next { s with schedule := ts, now := n, draws := s.draws + 1 }

/-- R60. A reserved word is refused with a reason that applies to it, and changes nothing but the refusal mark and the
history, besides the turn and the word being taken. -/
def Obligations.StepRefusesReservedWords : Prop :=
  ∀ (s : State) (n : Word32) (ts : List Turn) (w : CommandWord) (ws : List CommandWord),
    s.brokenRule = none → s.schedule = ⟨.host, n⟩ :: ts → s.port = w :: ws →
    (w.toNat % 16 = 0 ∨ 8 ≤ w.toNat % 16 ∨ w.toNat / 32 % 2048 ≠ 0) →
    ∃ r : Reason,
      (r = .reservedOp ∧ (w.toNat % 16 = 0 ∨ 8 ≤ w.toNat % 16) ∨ r = .reservedBits ∧ w.toNat / 32 % 2048 ≠ 0) ∧
      step s = .next { s with schedule := ts, port := ws, now := n, draws := s.draws + 1, refusal := true,
                              history := s.history ++ [.refused r] }

/-- R28, R126, R14, R17. A step faults for a broken invariant exactly where an invariant of R28 is broken, or where
LAST_MS or the serializer registers could be read before their first write (that the step is where these are checked
is the model's choice, log 11 and log 17). T < 2^33 is T's type. -/
def Obligations.StepFaultsExactlyOnBrokenInvariants : Prop :=
  ∀ s : State,
    (∃ k, step s = .fault (.brokenInvariant k)) ↔
      (s.gate = 3 ∨
       ¬ (s.ds = .uninit ↔ s.lines = ⟨.z, .z, .z, .z⟩) ∨
       (s.ds ≠ .uninit ∧ s.ser.busy = false ∧ ¬ (s.lines.clk = .low ∧ s.lines.latchN = .high)) ∨
       ((s.armed = true ∨ s.logoffPend = true ∨ s.firePend = true) ∧ s.cfg.driveMode ≠ .timer) ∨
       ((s.firePend = true ∨ s.logoffPend = true) ∧ s.armed = false) ∨
       (s.ser.busy = true ∧ s.ds ≠ .running) ∨
       (s.ds = .stopped ∧ (s.armed = true ∨ s.logoffPend = true ∨ s.firePend = true)) ∨
       (s.ds ≠ .uninit ∧ s.lastMsWritten = false) ∨ (s.ser.busy = true ∧ s.ser.written = false))

/-! ### Host commands -/

/-- R111. From DS = UNINIT INIT drives the four lines, samples LAST_MS and enters CONFIGURED; otherwise it is refused
REINIT. The order of the five events is left open. -/
def Obligations.InitDrivesTheLinesAndConfigures : Prop :=
  ∀ s : State,
    (s.ds = .uninit → s.lines = ⟨.z, .z, .z, .z⟩ →
      ∃ es : List Event,
        es.Perm [.emit .data false, .emit .clk false, .emit .latchN true, .emit .blankN true, .cmd .init] ∧
        exec .init s = .next { s with lines := ⟨.low, .low, .high, .high⟩, lastMs := s.now, lastMsWritten := true,
                                      ds := .configured, history := s.history ++ es }) ∧
    (s.ds ≠ .uninit →
      exec .init s = .next { s with refusal := true, history := s.history ++ [.refused .reinit] })

/-- R112. SET_DISPLAY publishes the digits, keeps PER and restarts the blink phase. -/
def Obligations.SetDisplayPublishesDigitsAndKeepsThePeriod : Prop :=
  ∀ (d : Digits) (s : State),
    (s.ds = .uninit →
      exec (.setDisplay d) s = .next { s with refusal := true, history := s.history ++ [.refused .notInitialized] }) ∧
    (s.ds ≠ .uninit →
      exec (.setDisplay d) s = .next { s with snap := ⟨d, s.snap.per⟩, blink := ⟨true, 0⟩,
                                              history := s.history ++ [.cmd .setDisplay] })

/-- R113. UPDATE publishes digits and period; in timer mode it also arms the timer, cancels a pending log-off and
leaves STOPPED. -/
def Obligations.UpdatePublishesAndArmsInTimerMode : Prop :=
  ∀ (d : Digits) (p : Word32) (s : State),
    (s.ds = .uninit →
      exec (.update d p) s = .next { s with refusal := true, history := s.history ++ [.refused .notInitialized] }) ∧
    (s.ds ≠ .uninit → s.cfg.driveMode = .polled →
      exec (.update d p) s = .next { s with snap := ⟨d, p⟩, blink := ⟨true, 0⟩,
                                            history := s.history ++ [.cmd .update] }) ∧
    (s.ds ≠ .uninit → s.cfg.driveMode = .timer →
      exec (.update d p) s = .next { s with snap := ⟨d, p⟩, blink := ⟨true, 0⟩, logoffPend := false, armed := true,
                                            ds := if s.ds = .stopped then .configured else s.ds,
                                            history := s.history ++ [.cmd .update] })

/-- R114. CLEAR publishes six 16s and PER_RESET. -/
def Obligations.ClearPublishesBlankDigits : Prop :=
  ∀ s : State,
    (s.ds = .uninit →
      exec .clear s = .next { s with refusal := true, history := s.history ++ [.refused .notInitialized] }) ∧
    (s.ds ≠ .uninit →
      exec .clear s = .next { s with snap := ⟨⟨16, 16, 16, 16, 16, 16⟩, s.cfg.perReset⟩, blink := ⟨true, 0⟩,
                                     history := s.history ++ [.cmd .clear] })

/-- R115. LOG_OFF publishes the reset snapshot and, where the timer is armed, leaves a log-off pending; in polled mode
it is refused. -/
def Obligations.LogOffPublishesAndRequestsTheTeardown : Prop :=
  ∀ s : State,
    (s.ds = .uninit →
      exec .logOff s = .next { s with refusal := true, history := s.history ++ [.refused .notInitialized] }) ∧
    (s.ds ≠ .uninit → s.cfg.driveMode = .polled →
      exec .logOff s = .next { s with refusal := true, history := s.history ++ [.refused .logOffInPolledMode] }) ∧
    (s.ds ≠ .uninit → s.cfg.driveMode = .timer →
      exec .logOff s = .next { s with snap := ⟨s.cfg.dispReset, s.cfg.perReset⟩, blink := ⟨true, 0⟩,
                                      logoffPend := if s.armed = true then true else s.logoffPend,
                                      history := s.history ++ [.cmd .logOff] })

/-- R116. POWER sets BLANK_N from its argument. The order of the two events is left open. -/
def Obligations.PowerSetsTheBlankingLine : Prop :=
  ∀ (on : Bool) (s : State),
    (s.ds = .uninit →
      exec (.power on) s = .next { s with refusal := true, history := s.history ++ [.refused .notInitialized] }) ∧
    (s.ds ≠ .uninit →
      ∃ es : List Event, es.Perm [.emit .blankN on, .cmd .power] ∧
        exec (.power on) s = .next { s with lines := { s.lines with blankN := if on then .high else .low },
                                            history := s.history ++ es })

/-- R102. TICK: the refusals, the hold, the no-op below TICK_MS and the frame at or above it. Whether the no-op records
Cmd, and the order of a frame's two events, are left open. That LAST_MS is readable before its first write is log 11. -/
def Obligations.TickProducesAFrameWhenDue : Prop :=
  ∀ s : State,
    (s.ds = .uninit →
      exec .tick s = .next { s with refusal := true, history := s.history ++ [.refused .notInitialized] }) ∧
    (s.ds ≠ .uninit → s.cfg.driveMode = .timer →
      exec .tick s = .next { s with refusal := true, history := s.history ++ [.refused .tickInTimerMode] }) ∧
    (s.ds ≠ .uninit → s.cfg.driveMode = .polled → s.ser.busy = true → exec .tick s = .next s) ∧
    (s.ds ≠ .uninit → s.cfg.driveMode = .polled → s.ser.busy = false →
      (s.now - s.lastMs).toNat < s.cfg.tickMs →
      ∃ es : List Event, (es = [] ∨ es = [.cmd .tick]) ∧ exec .tick s = .next { s with history := s.history ++ es }) ∧
    (s.ds ≠ .uninit → s.cfg.driveMode = .polled → s.ser.busy = false →
      s.cfg.tickMs ≤ (s.now - s.lastMs).toNat →
      ∀ g : GateId, s.gate = g.bits → ∀ v b, s.blink.step s.snap.per (s.now - s.lastMs) = (v, b) →
      ∃ es : List Event, es.Perm [.frame (composeSnapshot s.cfg g s.snap.disp v), .cmd .tick] ∧
        exec .tick s = .next { s with lastMs := s.now, lastMsWritten := true, gate := g.succ.bits, blink := b,
                                      ser := ⟨true, composeSnapshot s.cfg g s.snap.disp v, 19, .data, true⟩,
                                      ds := if s.ds = .configured then .running else s.ds,
                                      history := s.history ++ es })

/-- R117 item 2, R125. Before INIT every command but INIT is refused NOT_INITIALIZED, whatever its mode. -/
def Obligations.CommandsBeforeInitAreRefused : Prop :=
  ∀ (i : Instr) (op : HostOp) (s : State), i.hostOp = some op → op ≠ .init → s.ds = .uninit →
    exec i s = .next { s with refusal := true, history := s.history ++ [.refused .notInitialized] }

/-! ### The timer and the refresh engine -/

/-- R104. An armed timer's firing leaves FIRE_PEND = 1, and a second one changes nothing. -/
def Obligations.TimerFireSetsFirePending : Prop :=
  ∀ s : State, s.cfg.driveMode = .timer → s.armed = true →
    exec .timerFire s = .next { s with firePend := true } ∧
    exec .timerFire { s with firePend := true } = .next { s with firePend := true }

/-- R105. The service clears FIRE_PEND; a pending log-off is observed there, once, with no frame; otherwise it produces
one frame.
That LAST_MS is readable before its first write is the model's choice (log 11). -/
def Obligations.TimerServiceTearsDownOrProducesAFrame : Prop :=
  ∀ s : State, s.firePend = true → s.ser.busy = false →
    (s.logoffPend = true →
      exec .timerService s = .next { s with firePend := false, logoffPend := false, armed := false, ds := .stopped }) ∧
    (s.logoffPend = false →
      ∀ g : GateId, s.gate = g.bits → ∀ v b, s.blink.step s.snap.per (s.now - s.lastMs) = (v, b) →
      exec .timerService s = .next { s with firePend := false, lastMs := s.now, lastMsWritten := true,
                                            gate := g.succ.bits, blink := b,
                                            ser := ⟨true, composeSnapshot s.cfg g s.snap.disp v, 19, .data, true⟩,
                                            ds := if s.ds = .configured then .running else s.ds,
                                            history := s.history ++
                                              [.frame (composeSnapshot s.cfg g s.snap.disp v)] })

/-- R8, R71, R104, R105. An operation that is not enabled changes nothing; that its turn passes is the model's choice
(log 8). -/
def Obligations.DisabledOperationsChangeNothing : Prop :=
  ∀ s : State,
    (s.cfg.driveMode = .polled ∨ s.armed = false → exec .timerFire s = .next s) ∧
    (s.firePend = false ∨ s.ser.busy = true → exec .timerService s = .next s) ∧
    (s.ser.busy = false → exec .serStep s = .next s)

/-! ### The serializer and the lines -/

/-- R71. The next pin event, for each phase; the chip sees the edges (R133).
That the registers are readable before their first write is the model's choice (log 11). -/
def Obligations.SerStepPerformsTheNextPinEvent : Prop :=
  ∀ s : State, s.ser.busy = true → s.ser.idx.toNat ≤ 19 →
    (s.ser.phase = .data →
      exec .serStep s = .next { s with
        lines := { s.lines with data := if s.ser.frame.getLsbD s.ser.idx.toNat then .high else .low }
        ser := { s.ser with phase := .clkHi }
        history := s.history ++ [.emit .data (s.ser.frame.getLsbD s.ser.idx.toNat)] }) ∧
    (s.ser.phase = .clkHi →
      ∃ ch : Chip,
        (s.lines.clk = .low → ∀ d : Bool, s.lines.data = (if d then .high else .low) →
          ch = ⟨(s.chip.sr <<< 1) ||| (if d then 1 else 0), s.chip.out⟩) ∧
        (s.lines.clk ≠ .low → ch = s.chip) ∧
        exec .serStep s = .next { s with
          lines := { s.lines with clk := .high }
          ser := { s.ser with phase := .clkLo }
          chip := ch
          history := s.history ++ [.emit .clk true] }) ∧
    (s.ser.phase = .clkLo →
      exec .serStep s = .next { s with
        lines := { s.lines with clk := .low }
        ser := if s.ser.idx = 0 then { s.ser with phase := .latchLo }
               else { s.ser with idx := s.ser.idx - 1, phase := .data }
        history := s.history ++ [.emit .clk false] }) ∧
    (s.ser.phase = .latchLo →
      exec .serStep s = .next { s with
        lines := { s.lines with latchN := .low }
        ser := { s.ser with phase := .latchHi }
        history := s.history ++ [.emit .latchN false] }) ∧
    (s.ser.phase = .latchHi →
      exec .serStep s = .next { s with
        lines := { s.lines with latchN := .high }
        ser := { s.ser with busy := false }
        chip := if s.lines.latchN = .low then ⟨s.chip.sr, s.chip.sr⟩ else s.chip
        history := s.history ++ [.emit .latchN true] })

/-- R70. SER_START accepts a frame, and is a fault while one is being sent. -/
def Obligations.SerStartAcceptsAFrame : Prop :=
  ∀ (f : FrameWord) (s : State),
    (s.ser.busy = false →
      exec (.serStart f) s = .next { s with ser := ⟨true, f, 19, .data, true⟩, history := s.history ++ [.frame f] }) ∧
    (s.ser.busy = true → exec (.serStart f) s = .fault .serStartBusy)

/-- R74. SET_BLANKING drives BLANK_N low when enabled and high when not, and touches nothing else. -/
def Obligations.SetBlankingDrivesBlankN : Prop :=
  ∀ (enabled : Bool) (s : State),
    exec (.setBlanking enabled) s = .next { s with
      lines := { s.lines with blankN := if enabled then .low else .high }
      history := s.history ++ [.emit .blankN (!enabled)] }

/-! ### The datapath functions -/

/-- R80. LOOKUP reads the ROM at codes 0..16 and gives the blank entry elsewhere, which is 0 for a legal SEG. That the
value is left in `value` is the model's choice (log 12). -/
def Obligations.LookupClampsCodesToBlank : Prop :=
  ∀ (slot : Fin 6) (code : Byte) (s : State),
    (∀ k : Fin 17, code.toNat = k.val →
      exec (.lookup slot code) s = .next { s with value := some (.pattern (s.cfg.romRead slot k)) }) ∧
    (17 ≤ code.toNat →
      exec (.lookup slot code) s = .next { s with value := some (.pattern (s.cfg.romRead slot 16)) }) ∧
    (s.cfg.segOk = true → 16 ≤ code.toNat →
      exec (.lookup slot code) s = .next { s with value := some (.pattern 0) })

/-- R85. COMPOSE builds the frame from the two patterns, the gate bit and the gate's dot bit; g = 3 is a fault. That the
value is left in `value` is the model's choice (log 12). -/
def Obligations.ComposeBuildsTheFrame : Prop :=
  ∀ (g : GateBits) (dlo dhi : Byte) (v : Bool) (s : State),
    (g = 3 → exec (.compose g dlo dhi v) s = .fault .composeGate) ∧
    (∀ lo hi : Fin 6, g ≠ 3 → lo.val = g.toNat → hi.val = g.toNat + 3 →
      exec (.compose g dlo dhi v) s = .next { s with value := some (.frame
        (((lookup s.cfg hi dhi).setWidth 20 <<< 8) ||| (lookup s.cfg lo dlo).setWidth 20 ||| (1#20 <<< (16 + g.toNat)) |||
          (if v = true ∧ g = 1 then 1#20 <<< s.cfg.dotPos1.val
           else if v = true ∧ g = 2 then 1#20 <<< s.cfg.dotPos2.val else 0))) })

/-- R87, R53. Dot ownership for a legal SEG and the default DOT_POS. -/
def Obligations.GatesOwnTheirDotBits : Prop :=
  ∀ (c : Config) (dlo dhi : Byte) (v : Bool), defaultDots c →
    ((composeFor c .gate0 dlo dhi v).getLsbD 7 = false ∧ (composeFor c .gate0 dlo dhi v).getLsbD 15 = false) ∧
    ((composeFor c .gate1 dlo dhi v).getLsbD 7 = v ∧ (composeFor c .gate1 dlo dhi v).getLsbD 15 = false) ∧
    ((composeFor c .gate2 dlo dhi v).getLsbD 15 = v ∧ (composeFor c .gate2 dlo dhi v).getLsbD 7 = false)

/-- R54, R52. What a frame was made from can be read back from it, for a legal SEG and the default DOT_POS. -/
def Obligations.FrameFieldsCanBeReadBack : Prop :=
  ∀ (c : Config) (g : GateId) (dlo dhi : Byte) (v : Bool) (f : FrameWord), defaultDots c →
    f = composeFor c g dlo dhi v →
    f.getLsbD 19 = false ∧
    (∀ k : Fin 3, f.getLsbD (16 + k.val) = decide (k.val = g.index)) ∧
    f.extractLsb' 0 8 &&& 0x7F = lookup c g.lowSlot dlo ∧
    f.extractLsb' 8 8 &&& 0x7F = lookup c g.highSlot dhi ∧
    ((v = true ∧ g ≠ .gate0) ↔ (g = .gate1 ∧ f.getLsbD 7 = true) ∨ (g = .gate2 ∧ f.getLsbD 15 = true))

/-- R90. NEXT_GATE returns the pointer and advances it modulo 3; G = 3 is a fault. That the value is left in `value` is
the model's choice (log 12). -/
def Obligations.NextGateReturnsThenAdvances : Prop :=
  ∀ s : State,
    (s.gate = 0 → exec .nextGate s = .next { s with gate := 1, value := some (.gate .gate0) }) ∧
    (s.gate = 1 → exec .nextGate s = .next { s with gate := 2, value := some (.gate .gate1) }) ∧
    (s.gate = 2 → exec .nextGate s = .next { s with gate := 0, value := some (.gate .gate2) }) ∧
    (s.gate = 3 → exec .nextGate s = .fault .gatePointer)

/-- R91. Three NEXT_GATEs visit the three gates in cyclic order and leave G as it was; a fourth repeats the first. -/
def Obligations.GateCycleHasPeriodThree : Prop :=
  ∀ (s : State) (g : GateId), s.gate = g.bits →
    ∃ t1 t2 t3 t4 : State,
      exec .nextGate s = .next t1 ∧ exec .nextGate t1 = .next t2 ∧ exec .nextGate t2 = .next t3 ∧
      exec .nextGate t3 = .next t4 ∧
      t1.value = some (.gate g) ∧ t2.value = some (.gate g.succ) ∧ t3.value = some (.gate g.succ.succ) ∧
      t4.value = some (.gate g) ∧ t3.gate = s.gate ∧ (∀ h : GateId, h = g ∨ h = g.succ ∨ h = g.succ.succ)

/-- R95. BLINK_STEP in its regimes. That the value is left in `value` is the model's choice (log 12). -/
def Obligations.BlinkStepFollowsThePeriod : Prop :=
  ∀ (p delta : Word32) (s : State),
    (p.toInt = 0 → exec (.blinkStep p delta) s = .next { s with value := some (.visible true) }) ∧
    (p.toInt < 0 → exec (.blinkStep p delta) s = .next { s with value := some (.visible false) }) ∧
    (0 < p.toInt → p.toInt / 2 ≤ s.blink.acc.toNat →
      exec (.blinkStep p delta) s = .next { s with
        blink := ⟨!s.blink.vis, delta.setWidth 33⟩, value := some (.visible (!s.blink.vis)) }) ∧
    (0 < p.toInt → s.blink.acc.toNat < p.toInt / 2 →
      exec (.blinkStep p delta) s = .next { s with
        blink := ⟨s.blink.vis, s.blink.acc + delta.setWidth 33⟩, value := some (.visible s.blink.vis) })

/-- R97. T never overflows its 33 bits: after a step in the toggling regime it is the exact sum. -/
def Obligations.BlinkAccumulatorNeverOverflows : Prop :=
  ∀ (p delta : Word32) (b : Blink), 0 < p.toInt →
    p.toInt / 2 ≤ 2 ^ 30 - 1 ∧
    (p.toInt / 2 ≤ b.acc.toNat → (b.step p delta).2.acc.toNat = delta.toNat) ∧
    (b.acc.toNat < p.toInt / 2 → (b.step p delta).2.acc.toNat = b.acc.toNat + delta.toNat)

/-- R98. Run lengths after a publish, for a constant positive delta. -/
def Obligations.BlinkRunLengthsAreTheHalfPeriod : Prop :=
  ∀ (p delta : Word32) (h : Nat), 0 < p.toInt → 0 < delta.toNat → (h : Int) = p.toInt / 2 →
    (h = 0 → ∀ k, visibleOn p delta k = decide (k % 2 = 1)) ∧
    (0 < h → ∀ k, visibleOn p delta k = decide (k / ((h + delta.toNat - 1) / delta.toNat) % 2 = 0))

/-- R96. BLINK_RESET sets VIS = 1 and T = 0. -/
def Obligations.BlinkResetRestartsThePhase : Prop :=
  ∀ s : State, exec .blinkReset s = .next { s with blink := ⟨true, 0⟩ }

/-- R100, R86. TICK_BODY(n): the pseudocode's whole effect; the frame is composed from DISP[g] and DISP[g+3], written
out for each gate. That LAST_MS is readable before its first write is the model's choice (log 11). -/
def Obligations.TickBodyProducesOneFrame : Prop :=
  (∀ (c : Config) (d : Digits) (v : Bool),
    composeSnapshot c .gate0 d v = composeFor c .gate0 d.d0 d.d3 v ∧
    composeSnapshot c .gate1 d v = composeFor c .gate1 d.d1 d.d4 v ∧
    composeSnapshot c .gate2 d v = composeFor c .gate2 d.d2 d.d5 v) ∧
  ∀ (n : Word32) (s : State) (g : GateId) (v : Bool) (b : Blink),
    s.ser.busy = false → s.gate = g.bits →
    s.blink.step s.snap.per (n - s.lastMs) = (v, b) →
    exec (.tickBody n) s = .next { s with
      lastMs := n
      lastMsWritten := true
      gate := g.succ.bits
      blink := b
      ser := ⟨true, composeSnapshot s.cfg g s.snap.disp v, 19, .data, true⟩
      ds := if s.ds = .configured then .running else s.ds
      history := s.history ++ [.frame (composeSnapshot s.cfg g s.snap.disp v)] }

/-- R126, R12, R70. The unreachable states in which an operation faults; SER_IDX is log 16. -/
def Obligations.UnreachableStatesFaultByName : Prop :=
  ∀ (s : State) (n : Word32),
    (s.gate = 3 → exec (.tickBody n) s = .fault .gatePointer) ∧
    (s.gate ≠ 3 → s.ser.busy = true → exec (.tickBody n) s = .fault .serStartBusy) ∧
    (s.ds ≠ .uninit → s.cfg.driveMode = .polled → s.ser.busy = false → s.gate = 3 →
      s.cfg.tickMs ≤ (s.now - s.lastMs).toNat → exec .tick s = .fault .gatePointer) ∧
    (s.firePend = true → s.logoffPend = false → s.ser.busy = false → s.gate = 3 →
      exec .timerService s = .fault .gatePointer) ∧
    (s.ser.busy = true → 20 ≤ s.ser.idx.toNat → exec .serStep s = .fault .serIndex)

/-- R110. PUBLISH replaces the digits, and the period unless "keep", and restarts the blink phase. -/
def Obligations.PublishReplacesTheSnapshot : Prop :=
  ∀ (d : Digits) (p : Word32) (s : State),
    exec (.publish d (some p)) s = .next { s with snap := ⟨d, p⟩, blink := ⟨true, 0⟩ } ∧
    exec (.publish d none) s = .next { s with snap := ⟨d, s.snap.per⟩, blink := ⟨true, 0⟩ }

/-! ### Invariants of every step -/

/-- R28, R140. Every instance's reset state meets the invariants. -/
def Obligations.ResetMeetsTheInvariants : Prop :=
  ∀ c : Config, Invariants (State.resetWith c) ∧ Tracks (State.resetWith c)

/-- R28, R106, R111. Every step keeps the invariants of R28 (with what makes them inductive), and the reset values of
the snapshot, G and the blink phase until INIT. -/
def Obligations.StepKeepsTheInvariants : Prop :=
  ∀ s t : State, Invariants s → step s = .next t → Invariants t

/-- R120, R126. From a state that meets the invariants a step neither faults nor stops. -/
def Obligations.StepAlwaysCompletesUnderTheInvariants : Prop :=
  ∀ s : State, Invariants s → ∃ t, step s = .next t

/-- R27, R43, R75, R133. Every step, whichever agent's, keeps the chip in step with the serializer: between
transmissions SR and OUT are the last frame accepted. -/
def Obligations.StepKeepsTheChipTrackingTheFrames : Prop :=
  ∀ s t : State, Invariants s → Tracks s → step s = .next t → Tracks t

/-- R27, R71, R133. 62 SER_STEPs deliver the frame: the 62 pin events, bit 19 first, SR = OUT = f at the end. -/
def Obligations.SixtyTwoStepsDeliverTheFrame : Prop :=
  ∀ (s : State) (f : FrameWord),
    s.ser = ⟨true, f, 19, .data, true⟩ → s.lines.clk = .low → s.lines.latchN = .high →
    (pinEvents f).length = 62 ∧
    serRun 62 s = .next { s with
      ser := ⟨false, f, 0, .latchHi, true⟩
      lines := { s.lines with data := .ofBool (f.getLsbD 0), clk := .low, latchN := .high }
      chip := ⟨f, f⟩
      history := s.history ++ pinEvents f }

/-- R71, R73. A transmission in progress ends after exactly the SER_STEPs it still has, 62 from its start. -/
def Obligations.TransmissionEndsAfterItsRemainingSteps : Prop :=
  (∀ f : FrameWord, serRemaining ⟨true, f, 19, .data, true⟩ = 62) ∧
  ∀ s : State, Invariants s → s.ser.busy = true →
    (∃ t, serRun (serRemaining s.ser) s = .next t ∧ t.ser.busy = false) ∧
    ∀ k, k < serRemaining s.ser → ∃ u, serRun k s = .next u ∧ u.ser.busy = true

/-- R133, R134. Between transmissions the tubes show the last frame while BLANK_N = 1, and nothing while BLANK_N = 0. -/
def Obligations.TubesShowTheLastFrameBetweenTransmissions : Prop :=
  ∀ (s : State) (f : FrameWord), Invariants s → Tracks s → s.ser.busy = false → lastFrame s.history = some f →
    (s.lines.blankN = .high → s.tubes = f) ∧ (s.lines.blankN = .low → s.tubes = 0)

/-- R109, R124. An accepted LOG_OFF leaves the block quiet, and over any run from a quiet state no frame is started
before an UPDATE is accepted. -/
def Obligations.LogOffSilencesTheDisplayUntilAnUpdate : Prop :=
  (∀ s t : State, Invariants s → s.ds ≠ .uninit → s.cfg.driveMode = .timer → exec .logOff s = .next t → Quiet t) ∧
  ∀ (n : Nat) (s t : State), Invariants s → Quiet s → Host.Core.run Sys2Proof.core n s = .next t →
    ∃ es, t.history = s.history ++ es ∧ (Event.cmd .update ∈ es ∨ (Quiet t ∧ framesOf es = []))

/-- R38, R42, R91. Over any run without a publish, the k-th frame shows the snapshot's digits at the k-th gate of the
cycle from G: so three frames show all six. -/
def Obligations.FramesShowTheSnapshotGateByGate : Prop :=
  ∀ (n : Nat) (s t : State) (g : GateId), Invariants s → s.gate = g.bits → Host.Core.run Sys2Proof.core n s = .next t →
    ∃ es, t.history = s.history ++ es ∧
      (¬ published es → ∀ (k : Nat) (f : FrameWord), (framesOf es)[k]? = some f →
        ∃ v, f = composeSnapshot s.cfg (gateAfter g k) s.snap.disp v)

/-- R50, R52, R53. For a legal SEG and the default DOT_POS every step keeps every recorded frame laid out as R50 says. -/
def Obligations.StepKeepsEveryFrameLaidOut : Prop :=
  ∀ s t : State, defaultDots s.cfg → (∀ f ∈ framesOf s.history, frameLaidOut f) → step s = .next t →
    defaultDots t.cfg ∧ ∀ f ∈ framesOf t.history, frameLaidOut f

/-- R20, R26, R125. No step changes the configuration, removes an event or clears the refusal mark, and the mark is set
exactly when a refusal is recorded. -/
def Obligations.StepKeepsConfigurationHistoryAndMark : Prop :=
  ∀ s t : State, step s = .next t →
    t.cfg = s.cfg ∧
    ∃ es, t.history = s.history ++ es ∧ (t.refusal = true ↔ s.refusal = true ∨ ∃ r, Event.refused r ∈ es)

/-- R92. A step changes G only with a frame, and then to the next gate. -/
def Obligations.GateAdvancesOnlyWithAFrame : Prop :=
  ∀ (s t : State) (g : GateId), s.gate = g.bits → step s = .next t →
    ∃ es, t.history = s.history ++ es ∧
      ((t.gate = s.gate ∧ framesOf es = []) ∨ (t.gate = g.succ.bits ∧ ∃ f, framesOf es = [f]))

/-! ### Who may write what -/

/-- R11, R108, R36. Only the publishing operations write the snapshot. -/
def Obligations.OnlyPublishesWriteTheSnapshot : Prop :=
  ∀ (i : Instr) (s t : State),
    (∀ d, i ≠ .setDisplay d) → (∀ d p, i ≠ .update d p) → i ≠ .clear → i ≠ .logOff → (∀ d p, i ≠ .publish d p) →
    exec i s = .next t → t.snap = s.snap

/-- R73, R76, R148. While a frame is sent no other operation touches the serializer, DATA, CLK, LATCH_N or the chip. -/
def Obligations.TransmissionCannotBeDisturbed : Prop :=
  ∀ (i : Instr) (s t : State), Invariants s → s.ser.busy = true → i ≠ .serStep → exec i s = .next t →
    t.ser = s.ser ∧ t.lines.data = s.lines.data ∧ t.lines.clk = s.lines.clk ∧ t.lines.latchN = s.lines.latchN ∧
    t.chip = s.chip

/-- R18. Only INIT, POWER and the primitive POWER calls write BLANK_N. -/
def Obligations.OnlyInitAndPowerWriteBlankN : Prop :=
  ∀ (i : Instr) (s t : State),
    i ≠ .init → (∀ on, i ≠ .power on) → (∀ e, i ≠ .setBlanking e) → exec i s = .next t →
    t.lines.blankN = s.lines.blankN

/-- R100, R102, R105. The two modes are equivalent at the frame level: from states that agree on what a frame is made
from, and at the same NOW, a due TICK and a service that sees no log-off produce the same frame and agree again. -/
def Obligations.BothDriveModesProduceTheSameFrames : Prop :=
  ∀ s t : State, SameDisplay s t → s.now = t.now → s.gate ≠ 3 →
    s.ds ≠ .uninit → s.cfg.driveMode = .polled → s.ser.busy = false →
    s.cfg.tickMs ≤ (s.now - s.lastMs).toNat →
    t.firePend = true → t.logoffPend = false → t.ser.busy = false →
    ∃ s' t' f, exec .tick s = .next s' ∧ exec .timerService t = .next t' ∧
      framesOf s'.history = framesOf s.history ++ [f] ∧ framesOf t'.history = framesOf t.history ++ [f] ∧
      SameDisplay s' t'
end

