-- ==== Sys2Proof/Laws/Decode.lean ====
section
/-! SUPPORT. What each field of an encoded word is. -/

namespace Sys2Proof

@[simp] theorem ofBits_op (op : HostOp) : HostOp.ofBits op.bits = some op := by cases op <;> rfl

theorem ofBits_some {b : BitVec 4} {op : HostOp} (h : HostOp.ofBits b = some op) : b = op.bits := by
  have key : ∀ b : BitVec 4, ∀ op ∈ [HostOp.init, .setDisplay, .update, .clear, .logOff, .power, .tick],
      HostOp.ofBits b = some op → b = op.bits := by decide
  exact key b op (by cases op <;> simp) h

theorem opField_packWord (op : HostOp) (on : Bool) (d : Digits) (p : Word32) :
    opField (packWord op on d p) = op.bits := by
  unfold opField packWord
  ext i hi
  simp only [BitVec.getElem_extractLsb', BitVec.getLsbD_append]
  rw [if_pos (by omega)]
  simp only [Nat.zero_add]
  rfl

theorem onField_packWord (op : HostOp) (on : Bool) (d : Digits) (p : Word32) :
    onField (packWord op on d p) = on := by
  unfold onField packWord
  simp only [BitVec.getLsbD_append]
  rw [if_neg (by omega), if_pos (by omega)]
  simp

theorem rsvField_packWord (op : HostOp) (on : Bool) (d : Digits) (p : Word32) :
    rsvField (packWord op on d p) = 0 := by
  unfold rsvField packWord
  ext i hi
  simp only [BitVec.getElem_extractLsb', BitVec.getLsbD_append]
  rw [if_neg (by omega), if_neg (by omega), if_pos (by omega)]
  simp

end Sys2Proof
end

