-- ==== Sys2Proof/Laws/State.lean ====
section
/-! SUPPORT. What each named update of State does to each field: one lemma per field per update. -/

namespace Sys2Proof.Machine

/-! record -/

@[simp] theorem State.record_cfg (s : State) (e : Event) : (s.record e).cfg = s.cfg := rfl
@[simp] theorem State.record_snap (s : State) (e : Event) : (s.record e).snap = s.snap := rfl
@[simp] theorem State.record_gate (s : State) (e : Event) : (s.record e).gate = s.gate := rfl
@[simp] theorem State.record_blink (s : State) (e : Event) : (s.record e).blink = s.blink := rfl
@[simp] theorem State.record_lastMs (s : State) (e : Event) : (s.record e).lastMs = s.lastMs := rfl
@[simp] theorem State.record_lastMsWritten (s : State) (e : Event) : (s.record e).lastMsWritten = s.lastMsWritten := rfl
@[simp] theorem State.record_ds (s : State) (e : Event) : (s.record e).ds = s.ds := rfl
@[simp] theorem State.record_armed (s : State) (e : Event) : (s.record e).armed = s.armed := rfl
@[simp] theorem State.record_logoffPend (s : State) (e : Event) : (s.record e).logoffPend = s.logoffPend := rfl
@[simp] theorem State.record_firePend (s : State) (e : Event) : (s.record e).firePend = s.firePend := rfl
@[simp] theorem State.record_ser (s : State) (e : Event) : (s.record e).ser = s.ser := rfl
@[simp] theorem State.record_lines (s : State) (e : Event) : (s.record e).lines = s.lines := rfl
@[simp] theorem State.record_chip (s : State) (e : Event) : (s.record e).chip = s.chip := rfl
@[simp] theorem State.record_history (s : State) (e : Event) : (s.record e).history = s.history ++ [e] := rfl
@[simp] theorem State.record_refusal (s : State) (e : Event) : (s.record e).refusal = s.refusal := rfl
@[simp] theorem State.record_now (s : State) (e : Event) : (s.record e).now = s.now := rfl
@[simp] theorem State.record_port (s : State) (e : Event) : (s.record e).port = s.port := rfl
@[simp] theorem State.record_schedule (s : State) (e : Event) : (s.record e).schedule = s.schedule := rfl
@[simp] theorem State.record_draws (s : State) (e : Event) : (s.record e).draws = s.draws := rfl
@[simp] theorem State.record_value (s : State) (e : Event) : (s.record e).value = s.value := rfl

/-! refuse -/

@[simp] theorem State.refuse_cfg (s : State) (r : Reason) : (s.refuse r).cfg = s.cfg := rfl
@[simp] theorem State.refuse_snap (s : State) (r : Reason) : (s.refuse r).snap = s.snap := rfl
@[simp] theorem State.refuse_gate (s : State) (r : Reason) : (s.refuse r).gate = s.gate := rfl
@[simp] theorem State.refuse_blink (s : State) (r : Reason) : (s.refuse r).blink = s.blink := rfl
@[simp] theorem State.refuse_lastMs (s : State) (r : Reason) : (s.refuse r).lastMs = s.lastMs := rfl
@[simp] theorem State.refuse_lastMsWritten (s : State) (r : Reason) : (s.refuse r).lastMsWritten = s.lastMsWritten := rfl
@[simp] theorem State.refuse_ds (s : State) (r : Reason) : (s.refuse r).ds = s.ds := rfl
@[simp] theorem State.refuse_armed (s : State) (r : Reason) : (s.refuse r).armed = s.armed := rfl
@[simp] theorem State.refuse_logoffPend (s : State) (r : Reason) : (s.refuse r).logoffPend = s.logoffPend := rfl
@[simp] theorem State.refuse_firePend (s : State) (r : Reason) : (s.refuse r).firePend = s.firePend := rfl
@[simp] theorem State.refuse_ser (s : State) (r : Reason) : (s.refuse r).ser = s.ser := rfl
@[simp] theorem State.refuse_lines (s : State) (r : Reason) : (s.refuse r).lines = s.lines := rfl
@[simp] theorem State.refuse_chip (s : State) (r : Reason) : (s.refuse r).chip = s.chip := rfl
@[simp] theorem State.refuse_history (s : State) (r : Reason) : (s.refuse r).history = s.history ++ [.refused r] := rfl
@[simp] theorem State.refuse_refusal (s : State) (r : Reason) : (s.refuse r).refusal = true := rfl
@[simp] theorem State.refuse_now (s : State) (r : Reason) : (s.refuse r).now = s.now := rfl
@[simp] theorem State.refuse_port (s : State) (r : Reason) : (s.refuse r).port = s.port := rfl
@[simp] theorem State.refuse_schedule (s : State) (r : Reason) : (s.refuse r).schedule = s.schedule := rfl
@[simp] theorem State.refuse_draws (s : State) (r : Reason) : (s.refuse r).draws = s.draws := rfl
@[simp] theorem State.refuse_value (s : State) (r : Reason) : (s.refuse r).value = s.value := rfl

/-! accept -/

@[simp] theorem State.accept_cfg (s : State) (op : HostOp) : (s.accept op).cfg = s.cfg := rfl
@[simp] theorem State.accept_snap (s : State) (op : HostOp) : (s.accept op).snap = s.snap := rfl
@[simp] theorem State.accept_gate (s : State) (op : HostOp) : (s.accept op).gate = s.gate := rfl
@[simp] theorem State.accept_blink (s : State) (op : HostOp) : (s.accept op).blink = s.blink := rfl
@[simp] theorem State.accept_lastMs (s : State) (op : HostOp) : (s.accept op).lastMs = s.lastMs := rfl
@[simp] theorem State.accept_lastMsWritten (s : State) (op : HostOp) : (s.accept op).lastMsWritten = s.lastMsWritten := rfl
@[simp] theorem State.accept_ds (s : State) (op : HostOp) : (s.accept op).ds = s.ds := rfl
@[simp] theorem State.accept_armed (s : State) (op : HostOp) : (s.accept op).armed = s.armed := rfl
@[simp] theorem State.accept_logoffPend (s : State) (op : HostOp) : (s.accept op).logoffPend = s.logoffPend := rfl
@[simp] theorem State.accept_firePend (s : State) (op : HostOp) : (s.accept op).firePend = s.firePend := rfl
@[simp] theorem State.accept_ser (s : State) (op : HostOp) : (s.accept op).ser = s.ser := rfl
@[simp] theorem State.accept_lines (s : State) (op : HostOp) : (s.accept op).lines = s.lines := rfl
@[simp] theorem State.accept_chip (s : State) (op : HostOp) : (s.accept op).chip = s.chip := rfl
@[simp] theorem State.accept_history (s : State) (op : HostOp) : (s.accept op).history = s.history ++ [.cmd op] := rfl
@[simp] theorem State.accept_refusal (s : State) (op : HostOp) : (s.accept op).refusal = s.refusal := rfl
@[simp] theorem State.accept_now (s : State) (op : HostOp) : (s.accept op).now = s.now := rfl
@[simp] theorem State.accept_port (s : State) (op : HostOp) : (s.accept op).port = s.port := rfl
@[simp] theorem State.accept_schedule (s : State) (op : HostOp) : (s.accept op).schedule = s.schedule := rfl
@[simp] theorem State.accept_draws (s : State) (op : HostOp) : (s.accept op).draws = s.draws := rfl
@[simp] theorem State.accept_value (s : State) (op : HostOp) : (s.accept op).value = s.value := rfl

/-! emit -/

@[simp] theorem State.emit_cfg (s : State) (p : Pin) (b : Bool) : (s.emit p b).cfg = s.cfg := rfl
@[simp] theorem State.emit_snap (s : State) (p : Pin) (b : Bool) : (s.emit p b).snap = s.snap := rfl
@[simp] theorem State.emit_gate (s : State) (p : Pin) (b : Bool) : (s.emit p b).gate = s.gate := rfl
@[simp] theorem State.emit_blink (s : State) (p : Pin) (b : Bool) : (s.emit p b).blink = s.blink := rfl
@[simp] theorem State.emit_lastMs (s : State) (p : Pin) (b : Bool) : (s.emit p b).lastMs = s.lastMs := rfl
@[simp] theorem State.emit_lastMsWritten (s : State) (p : Pin) (b : Bool) : (s.emit p b).lastMsWritten = s.lastMsWritten := rfl
@[simp] theorem State.emit_ds (s : State) (p : Pin) (b : Bool) : (s.emit p b).ds = s.ds := rfl
@[simp] theorem State.emit_armed (s : State) (p : Pin) (b : Bool) : (s.emit p b).armed = s.armed := rfl
@[simp] theorem State.emit_logoffPend (s : State) (p : Pin) (b : Bool) : (s.emit p b).logoffPend = s.logoffPend := rfl
@[simp] theorem State.emit_firePend (s : State) (p : Pin) (b : Bool) : (s.emit p b).firePend = s.firePend := rfl
@[simp] theorem State.emit_ser (s : State) (p : Pin) (b : Bool) : (s.emit p b).ser = s.ser := rfl
@[simp] theorem State.emit_lines (s : State) (p : Pin) (b : Bool) : (s.emit p b).lines = s.lines.drive p b := rfl
@[simp] theorem State.emit_chip (s : State) (p : Pin) (b : Bool) : (s.emit p b).chip = s.chip.observe s.lines p b (Config.floatingBit s.draws) := rfl
@[simp] theorem State.emit_history (s : State) (p : Pin) (b : Bool) : (s.emit p b).history = s.history ++ [.emit p b] := rfl
@[simp] theorem State.emit_refusal (s : State) (p : Pin) (b : Bool) : (s.emit p b).refusal = s.refusal := rfl
@[simp] theorem State.emit_now (s : State) (p : Pin) (b : Bool) : (s.emit p b).now = s.now := rfl
@[simp] theorem State.emit_port (s : State) (p : Pin) (b : Bool) : (s.emit p b).port = s.port := rfl
@[simp] theorem State.emit_schedule (s : State) (p : Pin) (b : Bool) : (s.emit p b).schedule = s.schedule := rfl
@[simp] theorem State.emit_draws (s : State) (p : Pin) (b : Bool) : (s.emit p b).draws = s.draws := rfl
@[simp] theorem State.emit_value (s : State) (p : Pin) (b : Bool) : (s.emit p b).value = s.value := rfl

/-! writeLastMs -/

@[simp] theorem State.writeLastMs_cfg (s : State) (n : Word32) : (s.writeLastMs n).cfg = s.cfg := rfl
@[simp] theorem State.writeLastMs_snap (s : State) (n : Word32) : (s.writeLastMs n).snap = s.snap := rfl
@[simp] theorem State.writeLastMs_gate (s : State) (n : Word32) : (s.writeLastMs n).gate = s.gate := rfl
@[simp] theorem State.writeLastMs_blink (s : State) (n : Word32) : (s.writeLastMs n).blink = s.blink := rfl
@[simp] theorem State.writeLastMs_lastMs (s : State) (n : Word32) : (s.writeLastMs n).lastMs = n := rfl
@[simp] theorem State.writeLastMs_lastMsWritten (s : State) (n : Word32) : (s.writeLastMs n).lastMsWritten = true := rfl
@[simp] theorem State.writeLastMs_ds (s : State) (n : Word32) : (s.writeLastMs n).ds = s.ds := rfl
@[simp] theorem State.writeLastMs_armed (s : State) (n : Word32) : (s.writeLastMs n).armed = s.armed := rfl
@[simp] theorem State.writeLastMs_logoffPend (s : State) (n : Word32) : (s.writeLastMs n).logoffPend = s.logoffPend := rfl
@[simp] theorem State.writeLastMs_firePend (s : State) (n : Word32) : (s.writeLastMs n).firePend = s.firePend := rfl
@[simp] theorem State.writeLastMs_ser (s : State) (n : Word32) : (s.writeLastMs n).ser = s.ser := rfl
@[simp] theorem State.writeLastMs_lines (s : State) (n : Word32) : (s.writeLastMs n).lines = s.lines := rfl
@[simp] theorem State.writeLastMs_chip (s : State) (n : Word32) : (s.writeLastMs n).chip = s.chip := rfl
@[simp] theorem State.writeLastMs_history (s : State) (n : Word32) : (s.writeLastMs n).history = s.history := rfl
@[simp] theorem State.writeLastMs_refusal (s : State) (n : Word32) : (s.writeLastMs n).refusal = s.refusal := rfl
@[simp] theorem State.writeLastMs_now (s : State) (n : Word32) : (s.writeLastMs n).now = s.now := rfl
@[simp] theorem State.writeLastMs_port (s : State) (n : Word32) : (s.writeLastMs n).port = s.port := rfl
@[simp] theorem State.writeLastMs_schedule (s : State) (n : Word32) : (s.writeLastMs n).schedule = s.schedule := rfl
@[simp] theorem State.writeLastMs_draws (s : State) (n : Word32) : (s.writeLastMs n).draws = s.draws := rfl
@[simp] theorem State.writeLastMs_value (s : State) (n : Word32) : (s.writeLastMs n).value = s.value := rfl

/-! give -/

@[simp] theorem State.give_cfg (s : State) (v : FnValue) : (s.give v).cfg = s.cfg := rfl
@[simp] theorem State.give_snap (s : State) (v : FnValue) : (s.give v).snap = s.snap := rfl
@[simp] theorem State.give_gate (s : State) (v : FnValue) : (s.give v).gate = s.gate := rfl
@[simp] theorem State.give_blink (s : State) (v : FnValue) : (s.give v).blink = s.blink := rfl
@[simp] theorem State.give_lastMs (s : State) (v : FnValue) : (s.give v).lastMs = s.lastMs := rfl
@[simp] theorem State.give_lastMsWritten (s : State) (v : FnValue) : (s.give v).lastMsWritten = s.lastMsWritten := rfl
@[simp] theorem State.give_ds (s : State) (v : FnValue) : (s.give v).ds = s.ds := rfl
@[simp] theorem State.give_armed (s : State) (v : FnValue) : (s.give v).armed = s.armed := rfl
@[simp] theorem State.give_logoffPend (s : State) (v : FnValue) : (s.give v).logoffPend = s.logoffPend := rfl
@[simp] theorem State.give_firePend (s : State) (v : FnValue) : (s.give v).firePend = s.firePend := rfl
@[simp] theorem State.give_ser (s : State) (v : FnValue) : (s.give v).ser = s.ser := rfl
@[simp] theorem State.give_lines (s : State) (v : FnValue) : (s.give v).lines = s.lines := rfl
@[simp] theorem State.give_chip (s : State) (v : FnValue) : (s.give v).chip = s.chip := rfl
@[simp] theorem State.give_history (s : State) (v : FnValue) : (s.give v).history = s.history := rfl
@[simp] theorem State.give_refusal (s : State) (v : FnValue) : (s.give v).refusal = s.refusal := rfl
@[simp] theorem State.give_now (s : State) (v : FnValue) : (s.give v).now = s.now := rfl
@[simp] theorem State.give_port (s : State) (v : FnValue) : (s.give v).port = s.port := rfl
@[simp] theorem State.give_schedule (s : State) (v : FnValue) : (s.give v).schedule = s.schedule := rfl
@[simp] theorem State.give_draws (s : State) (v : FnValue) : (s.give v).draws = s.draws := rfl
@[simp] theorem State.give_value (s : State) (v : FnValue) : (s.give v).value = some v := rfl

/-! blinkReset -/

@[simp] theorem State.blinkReset_cfg (s : State) : s.blinkReset.cfg = s.cfg := rfl
@[simp] theorem State.blinkReset_snap (s : State) : s.blinkReset.snap = s.snap := rfl
@[simp] theorem State.blinkReset_gate (s : State) : s.blinkReset.gate = s.gate := rfl
@[simp] theorem State.blinkReset_blink (s : State) : s.blinkReset.blink = Blink.fresh := rfl
@[simp] theorem State.blinkReset_lastMs (s : State) : s.blinkReset.lastMs = s.lastMs := rfl
@[simp] theorem State.blinkReset_lastMsWritten (s : State) : s.blinkReset.lastMsWritten = s.lastMsWritten := rfl
@[simp] theorem State.blinkReset_ds (s : State) : s.blinkReset.ds = s.ds := rfl
@[simp] theorem State.blinkReset_armed (s : State) : s.blinkReset.armed = s.armed := rfl
@[simp] theorem State.blinkReset_logoffPend (s : State) : s.blinkReset.logoffPend = s.logoffPend := rfl
@[simp] theorem State.blinkReset_firePend (s : State) : s.blinkReset.firePend = s.firePend := rfl
@[simp] theorem State.blinkReset_ser (s : State) : s.blinkReset.ser = s.ser := rfl
@[simp] theorem State.blinkReset_lines (s : State) : s.blinkReset.lines = s.lines := rfl
@[simp] theorem State.blinkReset_chip (s : State) : s.blinkReset.chip = s.chip := rfl
@[simp] theorem State.blinkReset_history (s : State) : s.blinkReset.history = s.history := rfl
@[simp] theorem State.blinkReset_refusal (s : State) : s.blinkReset.refusal = s.refusal := rfl
@[simp] theorem State.blinkReset_now (s : State) : s.blinkReset.now = s.now := rfl
@[simp] theorem State.blinkReset_port (s : State) : s.blinkReset.port = s.port := rfl
@[simp] theorem State.blinkReset_schedule (s : State) : s.blinkReset.schedule = s.schedule := rfl
@[simp] theorem State.blinkReset_draws (s : State) : s.blinkReset.draws = s.draws := rfl
@[simp] theorem State.blinkReset_value (s : State) : s.blinkReset.value = s.value := rfl

/-! publish -/

@[simp] theorem State.publish_cfg (s : State) (d : Digits) (p : Option Word32) : (s.publish d p).cfg = s.cfg := rfl
@[simp] theorem State.publish_snap (s : State) (d : Digits) (p : Option Word32) : (s.publish d p).snap = ⟨d, publishedPeriod p s.snap.per⟩ := rfl
@[simp] theorem State.publish_gate (s : State) (d : Digits) (p : Option Word32) : (s.publish d p).gate = s.gate := rfl
@[simp] theorem State.publish_blink (s : State) (d : Digits) (p : Option Word32) : (s.publish d p).blink = Blink.fresh := rfl
@[simp] theorem State.publish_lastMs (s : State) (d : Digits) (p : Option Word32) : (s.publish d p).lastMs = s.lastMs := rfl
@[simp] theorem State.publish_lastMsWritten (s : State) (d : Digits) (p : Option Word32) : (s.publish d p).lastMsWritten = s.lastMsWritten := rfl
@[simp] theorem State.publish_ds (s : State) (d : Digits) (p : Option Word32) : (s.publish d p).ds = s.ds := rfl
@[simp] theorem State.publish_armed (s : State) (d : Digits) (p : Option Word32) : (s.publish d p).armed = s.armed := rfl
@[simp] theorem State.publish_logoffPend (s : State) (d : Digits) (p : Option Word32) : (s.publish d p).logoffPend = s.logoffPend := rfl
@[simp] theorem State.publish_firePend (s : State) (d : Digits) (p : Option Word32) : (s.publish d p).firePend = s.firePend := rfl
@[simp] theorem State.publish_ser (s : State) (d : Digits) (p : Option Word32) : (s.publish d p).ser = s.ser := rfl
@[simp] theorem State.publish_lines (s : State) (d : Digits) (p : Option Word32) : (s.publish d p).lines = s.lines := rfl
@[simp] theorem State.publish_chip (s : State) (d : Digits) (p : Option Word32) : (s.publish d p).chip = s.chip := rfl
@[simp] theorem State.publish_history (s : State) (d : Digits) (p : Option Word32) : (s.publish d p).history = s.history := rfl
@[simp] theorem State.publish_refusal (s : State) (d : Digits) (p : Option Word32) : (s.publish d p).refusal = s.refusal := rfl
@[simp] theorem State.publish_now (s : State) (d : Digits) (p : Option Word32) : (s.publish d p).now = s.now := rfl
@[simp] theorem State.publish_port (s : State) (d : Digits) (p : Option Word32) : (s.publish d p).port = s.port := rfl
@[simp] theorem State.publish_schedule (s : State) (d : Digits) (p : Option Word32) : (s.publish d p).schedule = s.schedule := rfl
@[simp] theorem State.publish_draws (s : State) (d : Digits) (p : Option Word32) : (s.publish d p).draws = s.draws := rfl
@[simp] theorem State.publish_value (s : State) (d : Digits) (p : Option Word32) : (s.publish d p).value = s.value := rfl

/-! setBlanking -/

@[simp] theorem State.setBlanking_cfg (s : State) (b : Bool) : (s.setBlanking b).cfg = s.cfg := rfl
@[simp] theorem State.setBlanking_snap (s : State) (b : Bool) : (s.setBlanking b).snap = s.snap := rfl
@[simp] theorem State.setBlanking_gate (s : State) (b : Bool) : (s.setBlanking b).gate = s.gate := rfl
@[simp] theorem State.setBlanking_blink (s : State) (b : Bool) : (s.setBlanking b).blink = s.blink := rfl
@[simp] theorem State.setBlanking_lastMs (s : State) (b : Bool) : (s.setBlanking b).lastMs = s.lastMs := rfl
@[simp] theorem State.setBlanking_lastMsWritten (s : State) (b : Bool) : (s.setBlanking b).lastMsWritten = s.lastMsWritten := rfl
@[simp] theorem State.setBlanking_ds (s : State) (b : Bool) : (s.setBlanking b).ds = s.ds := rfl
@[simp] theorem State.setBlanking_armed (s : State) (b : Bool) : (s.setBlanking b).armed = s.armed := rfl
@[simp] theorem State.setBlanking_logoffPend (s : State) (b : Bool) : (s.setBlanking b).logoffPend = s.logoffPend := rfl
@[simp] theorem State.setBlanking_firePend (s : State) (b : Bool) : (s.setBlanking b).firePend = s.firePend := rfl
@[simp] theorem State.setBlanking_ser (s : State) (b : Bool) : (s.setBlanking b).ser = s.ser := rfl
@[simp] theorem State.setBlanking_lines (s : State) (b : Bool) : (s.setBlanking b).lines = s.lines.drive .blankN (!b) := rfl
@[simp] theorem State.setBlanking_chip (s : State) (b : Bool) : (s.setBlanking b).chip = s.chip := rfl
@[simp] theorem State.setBlanking_history (s : State) (b : Bool) : (s.setBlanking b).history = s.history ++ [.emit .blankN (!b)] := rfl
@[simp] theorem State.setBlanking_refusal (s : State) (b : Bool) : (s.setBlanking b).refusal = s.refusal := rfl
@[simp] theorem State.setBlanking_now (s : State) (b : Bool) : (s.setBlanking b).now = s.now := rfl
@[simp] theorem State.setBlanking_port (s : State) (b : Bool) : (s.setBlanking b).port = s.port := rfl
@[simp] theorem State.setBlanking_schedule (s : State) (b : Bool) : (s.setBlanking b).schedule = s.schedule := rfl
@[simp] theorem State.setBlanking_draws (s : State) (b : Bool) : (s.setBlanking b).draws = s.draws := rfl
@[simp] theorem State.setBlanking_value (s : State) (b : Bool) : (s.setBlanking b).value = s.value := rfl

/-! firePending -/

@[simp] theorem State.firePending_cfg (s : State) : s.firePending.cfg = s.cfg := rfl
@[simp] theorem State.firePending_snap (s : State) : s.firePending.snap = s.snap := rfl
@[simp] theorem State.firePending_gate (s : State) : s.firePending.gate = s.gate := rfl
@[simp] theorem State.firePending_blink (s : State) : s.firePending.blink = s.blink := rfl
@[simp] theorem State.firePending_lastMs (s : State) : s.firePending.lastMs = s.lastMs := rfl
@[simp] theorem State.firePending_lastMsWritten (s : State) : s.firePending.lastMsWritten = s.lastMsWritten := rfl
@[simp] theorem State.firePending_ds (s : State) : s.firePending.ds = s.ds := rfl
@[simp] theorem State.firePending_armed (s : State) : s.firePending.armed = s.armed := rfl
@[simp] theorem State.firePending_logoffPend (s : State) : s.firePending.logoffPend = s.logoffPend := rfl
@[simp] theorem State.firePending_firePend (s : State) : s.firePending.firePend = true := rfl
@[simp] theorem State.firePending_ser (s : State) : s.firePending.ser = s.ser := rfl
@[simp] theorem State.firePending_lines (s : State) : s.firePending.lines = s.lines := rfl
@[simp] theorem State.firePending_chip (s : State) : s.firePending.chip = s.chip := rfl
@[simp] theorem State.firePending_history (s : State) : s.firePending.history = s.history := rfl
@[simp] theorem State.firePending_refusal (s : State) : s.firePending.refusal = s.refusal := rfl
@[simp] theorem State.firePending_now (s : State) : s.firePending.now = s.now := rfl
@[simp] theorem State.firePending_port (s : State) : s.firePending.port = s.port := rfl
@[simp] theorem State.firePending_schedule (s : State) : s.firePending.schedule = s.schedule := rfl
@[simp] theorem State.firePending_draws (s : State) : s.firePending.draws = s.draws := rfl
@[simp] theorem State.firePending_value (s : State) : s.firePending.value = s.value := rfl

/-! fireServiced -/

@[simp] theorem State.fireServiced_cfg (s : State) : s.fireServiced.cfg = s.cfg := rfl
@[simp] theorem State.fireServiced_snap (s : State) : s.fireServiced.snap = s.snap := rfl
@[simp] theorem State.fireServiced_gate (s : State) : s.fireServiced.gate = s.gate := rfl
@[simp] theorem State.fireServiced_blink (s : State) : s.fireServiced.blink = s.blink := rfl
@[simp] theorem State.fireServiced_lastMs (s : State) : s.fireServiced.lastMs = s.lastMs := rfl
@[simp] theorem State.fireServiced_lastMsWritten (s : State) : s.fireServiced.lastMsWritten = s.lastMsWritten := rfl
@[simp] theorem State.fireServiced_ds (s : State) : s.fireServiced.ds = s.ds := rfl
@[simp] theorem State.fireServiced_armed (s : State) : s.fireServiced.armed = s.armed := rfl
@[simp] theorem State.fireServiced_logoffPend (s : State) : s.fireServiced.logoffPend = s.logoffPend := rfl
@[simp] theorem State.fireServiced_firePend (s : State) : s.fireServiced.firePend = false := rfl
@[simp] theorem State.fireServiced_ser (s : State) : s.fireServiced.ser = s.ser := rfl
@[simp] theorem State.fireServiced_lines (s : State) : s.fireServiced.lines = s.lines := rfl
@[simp] theorem State.fireServiced_chip (s : State) : s.fireServiced.chip = s.chip := rfl
@[simp] theorem State.fireServiced_history (s : State) : s.fireServiced.history = s.history := rfl
@[simp] theorem State.fireServiced_refusal (s : State) : s.fireServiced.refusal = s.refusal := rfl
@[simp] theorem State.fireServiced_now (s : State) : s.fireServiced.now = s.now := rfl
@[simp] theorem State.fireServiced_port (s : State) : s.fireServiced.port = s.port := rfl
@[simp] theorem State.fireServiced_schedule (s : State) : s.fireServiced.schedule = s.schedule := rfl
@[simp] theorem State.fireServiced_draws (s : State) : s.fireServiced.draws = s.draws := rfl
@[simp] theorem State.fireServiced_value (s : State) : s.fireServiced.value = s.value := rfl

/-! requestLogoff -/

@[simp] theorem State.requestLogoff_cfg (s : State) : s.requestLogoff.cfg = s.cfg := rfl
@[simp] theorem State.requestLogoff_snap (s : State) : s.requestLogoff.snap = s.snap := rfl
@[simp] theorem State.requestLogoff_gate (s : State) : s.requestLogoff.gate = s.gate := rfl
@[simp] theorem State.requestLogoff_blink (s : State) : s.requestLogoff.blink = s.blink := rfl
@[simp] theorem State.requestLogoff_lastMs (s : State) : s.requestLogoff.lastMs = s.lastMs := rfl
@[simp] theorem State.requestLogoff_lastMsWritten (s : State) : s.requestLogoff.lastMsWritten = s.lastMsWritten := rfl
@[simp] theorem State.requestLogoff_ds (s : State) : s.requestLogoff.ds = s.ds := rfl
@[simp] theorem State.requestLogoff_armed (s : State) : s.requestLogoff.armed = s.armed := rfl
@[simp] theorem State.requestLogoff_logoffPend (s : State) : s.requestLogoff.logoffPend = (s.logoffPend || s.armed) := rfl
@[simp] theorem State.requestLogoff_firePend (s : State) : s.requestLogoff.firePend = s.firePend := rfl
@[simp] theorem State.requestLogoff_ser (s : State) : s.requestLogoff.ser = s.ser := rfl
@[simp] theorem State.requestLogoff_lines (s : State) : s.requestLogoff.lines = s.lines := rfl
@[simp] theorem State.requestLogoff_chip (s : State) : s.requestLogoff.chip = s.chip := rfl
@[simp] theorem State.requestLogoff_history (s : State) : s.requestLogoff.history = s.history := rfl
@[simp] theorem State.requestLogoff_refusal (s : State) : s.requestLogoff.refusal = s.refusal := rfl
@[simp] theorem State.requestLogoff_now (s : State) : s.requestLogoff.now = s.now := rfl
@[simp] theorem State.requestLogoff_port (s : State) : s.requestLogoff.port = s.port := rfl
@[simp] theorem State.requestLogoff_schedule (s : State) : s.requestLogoff.schedule = s.schedule := rfl
@[simp] theorem State.requestLogoff_draws (s : State) : s.requestLogoff.draws = s.draws := rfl
@[simp] theorem State.requestLogoff_value (s : State) : s.requestLogoff.value = s.value := rfl

/-! arm -/

@[simp] theorem State.arm_cfg (s : State) : s.arm.cfg = s.cfg := rfl
@[simp] theorem State.arm_snap (s : State) : s.arm.snap = s.snap := rfl
@[simp] theorem State.arm_gate (s : State) : s.arm.gate = s.gate := rfl
@[simp] theorem State.arm_blink (s : State) : s.arm.blink = s.blink := rfl
@[simp] theorem State.arm_lastMs (s : State) : s.arm.lastMs = s.lastMs := rfl
@[simp] theorem State.arm_lastMsWritten (s : State) : s.arm.lastMsWritten = s.lastMsWritten := rfl
@[simp] theorem State.arm_ds (s : State) : s.arm.ds = if s.ds = .stopped then .configured else s.ds := rfl
@[simp] theorem State.arm_armed (s : State) : s.arm.armed = true := rfl
@[simp] theorem State.arm_logoffPend (s : State) : s.arm.logoffPend = false := rfl
@[simp] theorem State.arm_firePend (s : State) : s.arm.firePend = s.firePend := rfl
@[simp] theorem State.arm_ser (s : State) : s.arm.ser = s.ser := rfl
@[simp] theorem State.arm_lines (s : State) : s.arm.lines = s.lines := rfl
@[simp] theorem State.arm_chip (s : State) : s.arm.chip = s.chip := rfl
@[simp] theorem State.arm_history (s : State) : s.arm.history = s.history := rfl
@[simp] theorem State.arm_refusal (s : State) : s.arm.refusal = s.refusal := rfl
@[simp] theorem State.arm_now (s : State) : s.arm.now = s.now := rfl
@[simp] theorem State.arm_port (s : State) : s.arm.port = s.port := rfl
@[simp] theorem State.arm_schedule (s : State) : s.arm.schedule = s.schedule := rfl
@[simp] theorem State.arm_draws (s : State) : s.arm.draws = s.draws := rfl
@[simp] theorem State.arm_value (s : State) : s.arm.value = s.value := rfl

/-! teardown -/

@[simp] theorem State.teardown_cfg (s : State) : s.teardown.cfg = s.cfg := rfl
@[simp] theorem State.teardown_snap (s : State) : s.teardown.snap = s.snap := rfl
@[simp] theorem State.teardown_gate (s : State) : s.teardown.gate = s.gate := rfl
@[simp] theorem State.teardown_blink (s : State) : s.teardown.blink = s.blink := rfl
@[simp] theorem State.teardown_lastMs (s : State) : s.teardown.lastMs = s.lastMs := rfl
@[simp] theorem State.teardown_lastMsWritten (s : State) : s.teardown.lastMsWritten = s.lastMsWritten := rfl
@[simp] theorem State.teardown_ds (s : State) : s.teardown.ds = .stopped := rfl
@[simp] theorem State.teardown_armed (s : State) : s.teardown.armed = false := rfl
@[simp] theorem State.teardown_logoffPend (s : State) : s.teardown.logoffPend = false := rfl
@[simp] theorem State.teardown_firePend (s : State) : s.teardown.firePend = s.firePend := rfl
@[simp] theorem State.teardown_ser (s : State) : s.teardown.ser = s.ser := rfl
@[simp] theorem State.teardown_lines (s : State) : s.teardown.lines = s.lines := rfl
@[simp] theorem State.teardown_chip (s : State) : s.teardown.chip = s.chip := rfl
@[simp] theorem State.teardown_history (s : State) : s.teardown.history = s.history := rfl
@[simp] theorem State.teardown_refusal (s : State) : s.teardown.refusal = s.refusal := rfl
@[simp] theorem State.teardown_now (s : State) : s.teardown.now = s.now := rfl
@[simp] theorem State.teardown_port (s : State) : s.teardown.port = s.port := rfl
@[simp] theorem State.teardown_schedule (s : State) : s.teardown.schedule = s.schedule := rfl
@[simp] theorem State.teardown_draws (s : State) : s.teardown.draws = s.draws := rfl
@[simp] theorem State.teardown_value (s : State) : s.teardown.value = s.value := rfl

/-! enterRunning -/

@[simp] theorem State.enterRunning_cfg (s : State) : s.enterRunning.cfg = s.cfg := rfl
@[simp] theorem State.enterRunning_snap (s : State) : s.enterRunning.snap = s.snap := rfl
@[simp] theorem State.enterRunning_gate (s : State) : s.enterRunning.gate = s.gate := rfl
@[simp] theorem State.enterRunning_blink (s : State) : s.enterRunning.blink = s.blink := rfl
@[simp] theorem State.enterRunning_lastMs (s : State) : s.enterRunning.lastMs = s.lastMs := rfl
@[simp] theorem State.enterRunning_lastMsWritten (s : State) : s.enterRunning.lastMsWritten = s.lastMsWritten := rfl
@[simp] theorem State.enterRunning_ds (s : State) : s.enterRunning.ds = if s.ds = .configured then .running else s.ds := rfl
@[simp] theorem State.enterRunning_armed (s : State) : s.enterRunning.armed = s.armed := rfl
@[simp] theorem State.enterRunning_logoffPend (s : State) : s.enterRunning.logoffPend = s.logoffPend := rfl
@[simp] theorem State.enterRunning_firePend (s : State) : s.enterRunning.firePend = s.firePend := rfl
@[simp] theorem State.enterRunning_ser (s : State) : s.enterRunning.ser = s.ser := rfl
@[simp] theorem State.enterRunning_lines (s : State) : s.enterRunning.lines = s.lines := rfl
@[simp] theorem State.enterRunning_chip (s : State) : s.enterRunning.chip = s.chip := rfl
@[simp] theorem State.enterRunning_history (s : State) : s.enterRunning.history = s.history := rfl
@[simp] theorem State.enterRunning_refusal (s : State) : s.enterRunning.refusal = s.refusal := rfl
@[simp] theorem State.enterRunning_now (s : State) : s.enterRunning.now = s.now := rfl
@[simp] theorem State.enterRunning_port (s : State) : s.enterRunning.port = s.port := rfl
@[simp] theorem State.enterRunning_schedule (s : State) : s.enterRunning.schedule = s.schedule := rfl
@[simp] theorem State.enterRunning_draws (s : State) : s.enterRunning.draws = s.draws := rfl
@[simp] theorem State.enterRunning_value (s : State) : s.enterRunning.value = s.value := rfl

/-! beginTurn -/

@[simp] theorem State.beginTurn_cfg (s : State) : s.beginTurn.cfg = s.cfg := rfl
@[simp] theorem State.beginTurn_snap (s : State) : s.beginTurn.snap = s.snap := rfl
@[simp] theorem State.beginTurn_gate (s : State) : s.beginTurn.gate = s.gate := rfl
@[simp] theorem State.beginTurn_blink (s : State) : s.beginTurn.blink = s.blink := rfl
@[simp] theorem State.beginTurn_lastMs (s : State) : s.beginTurn.lastMs = s.lastMs := rfl
@[simp] theorem State.beginTurn_lastMsWritten (s : State) : s.beginTurn.lastMsWritten = s.lastMsWritten := rfl
@[simp] theorem State.beginTurn_ds (s : State) : s.beginTurn.ds = s.ds := rfl
@[simp] theorem State.beginTurn_armed (s : State) : s.beginTurn.armed = s.armed := rfl
@[simp] theorem State.beginTurn_logoffPend (s : State) : s.beginTurn.logoffPend = s.logoffPend := rfl
@[simp] theorem State.beginTurn_firePend (s : State) : s.beginTurn.firePend = s.firePend := rfl
@[simp] theorem State.beginTurn_ser (s : State) : s.beginTurn.ser = s.ser := rfl
@[simp] theorem State.beginTurn_lines (s : State) : s.beginTurn.lines = s.lines := rfl
@[simp] theorem State.beginTurn_chip (s : State) : s.beginTurn.chip = s.chip := rfl
@[simp] theorem State.beginTurn_history (s : State) : s.beginTurn.history = s.history := rfl
@[simp] theorem State.beginTurn_refusal (s : State) : s.beginTurn.refusal = s.refusal := rfl
@[simp] theorem State.beginTurn_now (s : State) : s.beginTurn.now = s.nextTurn.now := rfl
@[simp] theorem State.beginTurn_port (s : State) : s.beginTurn.port = s.port := rfl
@[simp] theorem State.beginTurn_schedule (s : State) : s.beginTurn.schedule = s.schedule.tail := rfl
@[simp] theorem State.beginTurn_draws (s : State) : s.beginTurn.draws = s.draws + 1 := rfl
@[simp] theorem State.beginTurn_value (s : State) : s.beginTurn.value = s.value := rfl

end Sys2Proof.Machine
end

