-- ==== Sys2Proof/Laws/Ops.lean ====
section
/-! SUPPORT. For each shared operation, one lemma that says once everything it can do. -/

namespace Sys2Proof.Machine

/-! ### Gates -/

@[simp] theorem ofBits_bits (g : GateId) : GateId.ofBits g.bits = some g := by cases g <;> rfl

theorem ofBits_eq_some {g : GateBits} {k : GateId} : GateId.ofBits g = some k ↔ g = k.bits := by
  have h : ∀ g : GateBits, ∀ k ∈ [GateId.gate0, .gate1, .gate2], GateId.ofBits g = some k ↔ g = k.bits := by decide
  exact h g k (by cases k <;> simp)

theorem ofBits_eq_none {g : GateBits} : GateId.ofBits g = none ↔ g = 3 := by
  revert g; decide

theorem ofBits_of_ne {g : GateBits} (h : g ≠ 3) : ∃ k, GateId.ofBits g = some k := by
  cases hg : GateId.ofBits g with
  | none => exact absurd (ofBits_eq_none.mp hg) h
  | some k => exact ⟨k, rfl⟩

theorem bits_ne_three (g : GateId) : g.bits ≠ 3 := by cases g <;> decide

@[simp] theorem succ_succ_succ (g : GateId) : g.succ.succ.succ = g := by cases g <;> rfl

/-! ### The units -/

theorem nextGate_ok {s t : State} {g : GateId} :
    s.nextGate = .ok (g, t) ↔ s.gate = g.bits ∧ t = { s with gate := g.succ.bits } := by
  unfold State.nextGate
  cases hg : GateId.ofBits s.gate with
  | none =>
    simp only [reduceCtorEq, false_iff, not_and]
    intro h; rw [h, ofBits_bits] at hg; cases hg
  | some k =>
    have hk := ofBits_eq_some.mp hg
    constructor
    · intro h; cases h; exact ⟨hk, rfl⟩
    · rintro ⟨h, rfl⟩
      have : k = g := by simpa [h] using hg.symm
      subst this; rfl

theorem nextGate_error {s : State} {f : Fault} : s.nextGate = .error f ↔ s.gate = 3 ∧ .gatePointer = f := by
  unfold State.nextGate
  cases hg : GateId.ofBits s.gate with
  | none => simp [ofBits_eq_none.mp hg]
  | some k =>
    have := bits_ne_three k
    simp_all [ofBits_eq_some.mp hg]

theorem serStart_ok {s t : State} {f : FrameWord} :
    s.serStart f = .ok t ↔
      s.ser.busy = false ∧ { s with ser := Ser.started f, history := s.history ++ [.frame f] } = t := by
  unfold State.serStart; cases s.ser.busy <;> simp

theorem serStart_error {s : State} {f : FrameWord} {e : Fault} :
    s.serStart f = .error e ↔ s.ser.busy = true ∧ .serStartBusy = e := by
  unfold State.serStart; cases s.ser.busy <;> simp

theorem serStep_ok {s t : State} :
    s.serStep = .ok t ↔ s.ser.idx.toNat ≤ 19 ∧ s.pinEvent = t := by
  unfold State.serStep
  by_cases h : 19 < s.ser.idx.toNat
  · simp [h, Nat.not_le.mpr h]
  · simp [h, Nat.not_lt.mp h]

/-! ### TICK_BODY -/

/-- The state after TICK_BODY(n) at gate `g` (45_refresh_tick.md R100). -/
def State.ticked (s : State) (n : Word32) (g : GateId) : State :=
  let r := s.blink.step s.snap.per (elapsed n s.lastMs)
  let f := composeSnapshot s.cfg g s.snap.disp r.1
  { s with
    lastMs := n
    lastMsWritten := true
    gate := g.succ.bits
    blink := r.2
    ser := Ser.started f
    ds := if s.ds = .configured then .running else s.ds
    history := s.history ++ [.frame f] }

theorem tickBody_ok {s t : State} {n : Word32} :
    s.tickBody n = .ok t ↔ s.ser.busy = false ∧ ∃ g, s.gate = GateId.bits g ∧ t = s.ticked n g := by
  cases hg : GateId.ofBits s.gate with
  | none =>
    have h3 := ofBits_eq_none.mp hg
    have key : s.tickBody n = .error .gatePointer := by
      simp [State.tickBody, State.nextGate, hg, State.writeLastMs]
    rw [key]
    constructor
    · intro h; cases h
    · rintro ⟨-, g, hg', -⟩; exact absurd (hg'.symm.trans h3) (bits_ne_three g)
  | some k =>
    have hk := ofBits_eq_some.mp hg
    cases hb : s.ser.busy with
    | true => simp [State.tickBody, State.nextGate, hg, State.writeLastMs, State.serStart, hb]
    | false =>
      have key : s.tickBody n = .ok (s.ticked n k) := by
        simp [State.tickBody, State.nextGate, hg, State.writeLastMs, State.serStart, hb, State.enterRunning,
          State.ticked]
      rw [key]
      constructor
      · intro h; cases h; exact ⟨rfl, k, hk, rfl⟩
      · rintro ⟨-, g, hg', rfl⟩
        have : k = g := by rw [hg', ofBits_bits] at hg; cases hg; rfl
        rw [this]

/-! ### The wrappers -/

theorem finish_next {r : Except Fault State} {t : State} : finish r = .next t ↔ r = .ok t := by
  cases r <;> simp [finish]

theorem finish_ne_refused {r : Except Fault State} {x : Refusal} : finish r ≠ .refused x := by
  cases r <;> simp [finish]

theorem whenInitialized_next {s t : State} {k : State → Host.Outcome State Fault Refusal} :
    whenInitialized s k = .next t ↔
      (s.ds = .uninit ∧ s.refuse .notInitialized = t) ∨ (s.ds ≠ .uninit ∧ k s = .next t) := by
  unfold whenInitialized
  by_cases h : s.ds = .uninit <;> simp [h]

/-! ### The chip and the lines -/

theorem shiftIn_toNat (sr : FrameWord) (b : Bool) : (shiftIn sr b).toNat = (2 * sr.toNat + b.toNat) % 2 ^ 20 := by
  have h : (sr <<< 1 ||| (if b then 1#20 else 0#20)) = sr <<< 1 + (if b then 1#20 else 0#20) := by
    cases b
    · simp
    · simp only [if_true]
      refine (BitVec.add_eq_or_of_and_eq_zero _ _ ?_).symm
      ext i hi
      rcases i with _ | i <;> simp
  unfold shiftIn
  rw [h]
  cases b <;> simp [Nat.shiftLeft_eq, Nat.mul_comm]

/-- An event other than a rising CLK or LATCH_N edge leaves the chip as it is. -/
theorem observe_other (c : Chip) (l : Lines) (p : Pin) (b float : Bool)
    (h1 : ¬ (p = .clk ∧ b = true ∧ l.clk = .low)) (h2 : ¬ (p = .latchN ∧ b = true ∧ l.latchN = .low)) :
    c.observe l p b float = c := by
  cases p <;> cases b <;> simp_all [Chip.observe]

/-! ### The fields that pin events leave alone -/

/-- SER_STEP writes the serializer, the lines, the chip and the history only (40_serializer.md R71). -/
theorem pinEvent_frame (s : State) :
    s.pinEvent = { s with ser := s.pinEvent.ser, lines := s.pinEvent.lines, chip := s.pinEvent.chip,
                          history := s.pinEvent.history } := by
  unfold State.pinEvent; split <;> rfl

/-- Every pin event appends one Emit (40_serializer.md R71). -/
theorem pinEvent_history (s : State) : ∃ p b, s.pinEvent.history = s.history ++ [.emit p b] := by
  unfold State.pinEvent; split <;> exact ⟨_, _, rfl⟩

/-! ### One turn -/

/-- No rule is broken exactly when each check holds. -/
theorem brokenRule_none {s : State} : s.brokenRule = none ↔ ∀ k, StateRule.holds s k = true := by
  unfold State.brokenRule
  rw [List.find?_eq_none]
  constructor
  · intro h k
    have := h k (by cases k <;> simp [StateRule.all])
    simpa using this
  · intro h k _; simp [h k]

theorem takeTurn_next {s t : State} :
    s.takeTurn = .next t ↔ s.brokenRule = none ∧ agentTurn s.nextTurn.agent s.beginTurn = .next t := by
  unfold State.takeTurn; split <;> simp_all

/-- What a HOST turn can do (46_host_commands.md R117). -/
theorem hostTurn_next {w : CommandWord} {s t : State} :
    hostTurn w s = .next t ↔
      (∃ r, decode w = .error r ∧ { s with port := s.port.tail }.refuse r = t) ∨
      (∃ i, decode w = .ok i ∧ s.holdsCommand i = true ∧ { s with port := w :: s.port.tail } = t) ∨
      (∃ i, decode w = .ok i ∧ s.holdsCommand i = false ∧ exec i { s with port := s.port.tail } = .next t) := by
  unfold hostTurn
  cases decode w with
  | error r => simp
  | ok i => cases h : s.holdsCommand i <;> simp [h]

/-- The decoder answers host commands only (30_encoding.md R65). -/
theorem decode_hostOp {w : CommandWord} {i : Instr} (h : decode w = .ok i) :
    ∃ op, HostOp.ofBits (opField w) = some op ∧ rsvField w = 0 ∧ i = op.withOperands w ∧ i.hostOp = some op := by
  unfold decode at h
  split at h
  · cases h
  · next op hop =>
    split at h
    · next hr => cases h; exact ⟨op, hop, hr, rfl, by cases op <;> rfl⟩
    · cases h

end Sys2Proof.Machine
end

