-- ==== Sys2Proof/Laws/PerInstr.lean ====
section
/-! SUPPORT. The families of statements made of every instruction, one lemma per constructor. -/

namespace Sys2Proof.Laws.EncodedFields

open Sys2Proof

/-- A word the encoder gives is a host command's: its OP is that operation's and its RSV is 0
(30_encoding.md R55, R56, R65). -/
def Statement (i : Instr) : Prop :=
  ∀ w, encode i = some w → ∃ op, i.hostOp = some op ∧ opField w = op.bits ∧ rsvField w = 0

/-- The encoder writes only packed words. -/
theorem of_pack {i : Instr} {op : HostOp} {on : Bool} {d : Digits} {p : Word32} (hop : i.hostOp = some op)
    (he : encode i = some (packWord op on d p)) : Statement i := by
  intro w hw
  rw [he] at hw
  cases hw
  exact ⟨op, hop, opField_packWord .., rsvField_packWord ..⟩

/-- An operation without a word. -/
theorem of_none {i : Instr} (he : encode i = none) : Statement i := by
  intro w hw
  rw [he] at hw
  cases hw

theorem init : Statement .init := of_pack rfl rfl
theorem setDisplay (d : Digits) : Statement (.setDisplay d) := of_pack rfl rfl
theorem update (d : Digits) (p : Word32) : Statement (.update d p) := of_pack rfl rfl
theorem clear : Statement .clear := of_pack rfl rfl
theorem logOff : Statement .logOff := of_pack rfl rfl
theorem power (on : Bool) : Statement (.power on) := of_pack rfl rfl
theorem tick : Statement .tick := of_pack rfl rfl
theorem timerFire : Statement .timerFire := of_none rfl
theorem timerService : Statement .timerService := of_none rfl
theorem serStep : Statement .serStep := of_none rfl
theorem serStart (f : FrameWord) : Statement (.serStart f) := of_none rfl
theorem setBlanking (e : Bool) : Statement (.setBlanking e) := of_none rfl
theorem lookup (slot : Fin 6) (code : Byte) : Statement (.lookup slot code) := of_none rfl
theorem compose (g : GateBits) (dlo dhi : Byte) (v : Bool) : Statement (.compose g dlo dhi v) := of_none rfl
theorem nextGate : Statement .nextGate := of_none rfl
theorem blinkStep (p delta : Word32) : Statement (.blinkStep p delta) := of_none rfl
theorem blinkReset : Statement .blinkReset := of_none rfl
theorem tickBody (n : Word32) : Statement (.tickBody n) := of_none rfl
theorem publish (d : Digits) (p : Option Word32) : Statement (.publish d p) := of_none rfl

end Sys2Proof.Laws.EncodedFields
end

