-- ==== Sys2Proof/Laws/Step.lean ====
section
/-! SUPPORT. Everything a host command can do, and everything a step can do, said once. -/

namespace Sys2Proof.Machine

/-- Everything a host command can do when it answers a next state (46_host_commands.md R111 to R117,
45_refresh_tick.md R102). -/
inductive HostEffect (s : State) : Instr → State → Prop
  | refused (i : Instr) (r : Reason) : HostEffect s i (s.refuse r)
  | init : s.ds = .uninit →
      HostEffect s .init ({ s.initLines.writeLastMs s.now with ds := .configured }.accept .init)
  | setDisplay (d : Digits) : s.ds ≠ .uninit → HostEffect s (.setDisplay d) ((s.publish d none).accept .setDisplay)
  | updatePolled (d : Digits) (p : Word32) : s.ds ≠ .uninit → s.cfg.driveMode = .polled →
      HostEffect s (.update d p) ((s.publish d (some p)).accept .update)
  | updateTimer (d : Digits) (p : Word32) : s.ds ≠ .uninit → s.cfg.driveMode = .timer →
      HostEffect s (.update d p) ((s.publish d (some p)).arm.accept .update)
  | clear : s.ds ≠ .uninit → HostEffect s .clear ((s.publish Digits.blank (some s.cfg.perReset)).accept .clear)
  | logOff : s.ds ≠ .uninit → s.cfg.driveMode = .timer →
      HostEffect s .logOff ((s.publish s.cfg.dispReset (some s.cfg.perReset)).requestLogoff.accept .logOff)
  | power (on : Bool) : s.ds ≠ .uninit → HostEffect s (.power on) ((s.setBlanking (!on)).accept .power)
  | held : s.ds ≠ .uninit → s.cfg.driveMode = .polled → s.ser.busy = true → HostEffect s .tick s
  | early : s.ds ≠ .uninit → s.cfg.driveMode = .polled → s.ser.busy = false → HostEffect s .tick (s.accept .tick)
  | frame (g : GateId) : s.ds ≠ .uninit → s.cfg.driveMode = .polled → s.ser.busy = false → s.gate = g.bits →
      HostEffect s .tick ((s.ticked s.now g).accept .tick)

theorem exec_hostEffect {i : Instr} {s t : State} {op : HostOp} (hop : i.hostOp = some op) (h : exec i s = .next t) :
    HostEffect s i t := by
  cases i <;> simp only [Instr.hostOp, reduceCtorEq] at hop
  case init =>
    simp only [exec, execInit] at h
    split at h
    · cases h; exact .refused _ _
    · next hd => cases h; exact .init (not_not.mp hd)
  case setDisplay d =>
    simp only [exec, execSetDisplay, whenInitialized_next] at h
    obtain ⟨-, rfl⟩ | ⟨hd, h⟩ := h
    · exact .refused _ _
    · cases h; exact .setDisplay d hd
  case update d p =>
    simp only [exec, execUpdate, whenInitialized_next] at h
    obtain ⟨-, rfl⟩ | ⟨hd, h⟩ := h
    · exact .refused _ _
    · cases hm : s.cfg.driveMode <;> simp only [hm, reduceCtorEq, if_false, if_true] at h <;> cases h
      · exact .updatePolled d p hd hm
      · exact .updateTimer d p hd hm
  case clear =>
    simp only [exec, execClear, whenInitialized_next] at h
    obtain ⟨-, rfl⟩ | ⟨hd, h⟩ := h
    · exact .refused _ _
    · cases h; exact .clear hd
  case logOff =>
    simp only [exec, execLogOff, whenInitialized_next] at h
    obtain ⟨-, rfl⟩ | ⟨hd, h⟩ := h
    · exact .refused _ _
    · split at h
      · cases h; exact .refused _ _
      · next hm => cases h; exact .logOff hd (not_not.mp hm)
  case power on =>
    simp only [exec, execPower, whenInitialized_next] at h
    obtain ⟨-, rfl⟩ | ⟨hd, h⟩ := h
    · exact .refused _ _
    · cases h; exact .power on hd
  case tick =>
    simp only [exec, execTick, whenInitialized_next] at h
    obtain ⟨-, rfl⟩ | ⟨hd, h⟩ := h
    · exact .refused _ _
    split at h
    · cases h; exact .refused _ _
    next hm =>
    split at h
    · next hb => cases h; exact .held hd (not_not.mp hm) hb
    next hb =>
    have hb : s.ser.busy = false := by simpa using hb
    split at h
    · cases h; exact .early hd (not_not.mp hm) hb
    split at h
    · cases h
    next h1 =>
    cases h
    obtain ⟨-, g, hg, rfl⟩ := tickBody_ok.mp h1
    exact .frame g hd (not_not.mp hm) hb hg

/-- Everything one step can do when it answers a next state (10_state.md R10, 20_memory.md R38). -/
inductive StepEffect (s : State) : State → Prop
  | reserved (r : Reason) (ps : List CommandWord) : StepEffect s ({ s.beginTurn with port := ps }.refuse r)
  | held (ps : List CommandWord) : StepEffect s { s.beginTurn with port := ps }
  | host (i : Instr) (op : HostOp) (ps : List CommandWord) (t : State) : i.hostOp = some op →
      HostEffect { s.beginTurn with port := ps } i t → StepEffect s t
  | passed : StepEffect s s.beginTurn
  | fired : s.cfg.driveMode = .timer → s.armed = true → StepEffect s s.beginTurn.firePending
  | tornDown : s.firePend = true → s.ser.busy = false → s.logoffPend = true →
      StepEffect s s.beginTurn.fireServiced.teardown
  | frame (g : GateId) : s.firePend = true → s.ser.busy = false → s.logoffPend = false → s.gate = g.bits →
      StepEffect s (s.beginTurn.fireServiced.ticked s.nextTurn.now g)
  | pin : s.ser.busy = true → StepEffect s s.beginTurn.pinEvent

theorem step_effect {s t : State} (h : step s = .next t) : s.brokenRule = none ∧ StepEffect s t := by
  obtain ⟨hb, h⟩ := takeTurn_next.mp h
  refine ⟨hb, ?_⟩
  cases ha : s.nextTurn.agent <;> rw [ha] at h <;> simp only [agentTurn] at h
  case host =>
    obtain ⟨r, -, rfl⟩ | ⟨i, -, -, rfl⟩ | ⟨i, hi, -, h⟩ := hostTurn_next.mp h
    · exact .reserved _ _
    · exact .held _
    · obtain ⟨op, -, -, -, hop⟩ := decode_hostOp hi
      exact .host i op _ t hop (exec_hostEffect hop h)
  case timer =>
    simp only [exec, execTimerFire, State.timerEnabled, Bool.and_eq_true, decide_eq_true_eq] at h
    split at h
    · next hh => cases h; exact .fired hh.1 hh.2
    · cases h; exact .passed
  case refresh =>
    simp only [exec, execTimerService, State.serviceEnabled, Bool.and_eq_true, Bool.not_eq_true'] at h
    split at h
    · next hh =>
      split at h
      · next hl => cases h; exact .tornDown hh.1 hh.2 hl
      · next hl =>
        obtain ⟨-, g, hg, rfl⟩ := tickBody_ok.mp (finish_next.mp h)
        exact .frame g hh.1 hh.2 (by simpa using hl) hg
    · cases h; exact .passed
  case serializer =>
    simp only [exec, execSerStep] at h
    split at h
    · next hh =>
      obtain ⟨-, rfl⟩ := serStep_ok.mp (finish_next.mp h)
      exact .pin hh
    · cases h; exact .passed

end Sys2Proof.Machine
end

