-- ==== Sys2Proof/Tests/Slice0.lean ====
section
/-! SUPPORT. The model's own tests: what the well-formedness checks refuse, what the words of 30_encoding.md decode
to, small vectors of 95_test_vectors.md for each operation, and a witness for the hypotheses of each statement.
Expected values come from the spec's text. -/

namespace Sys2Proof.Tests

open Sys2Proof Sys2Proof.Machine Sys2Proof.Safety

/-! ### Small instances and states -/

/-- The illustrative table of 95_test_vectors.md section 0. -/
def glyphs : Vector Byte 17 :=
  #v[0x3F, 0x06, 0x5B, 0x4F, 0x66, 0x6D, 0x7D, 0x07, 0x7F, 0x6F, 0x77, 0x7C, 0x39, 0x5E, 0x79, 0x71, 0x00]

/-- An instance with that table, uniform over the slots, and the identity permutation. -/
def demo (m : DriveMode) : Config where
  variant := .v1
  segV1 := Vector.replicate 6 glyphs
  perm := #v[0, 1, 2, 3, 4, 5, 6, 7]
  driveMode := m
  tickMs := 5
  settleNs := 2000
  dotPos1 := 7
  dotPos2 := 15
  dispReset := Digits.blank
  perReset := -1

/-- The demo instance after reset, its chip powered up with zeros. -/
def fresh (m : DriveMode) : State := { State.resetWith (demo m) with chip := ⟨0, 0⟩ }

/-- After INIT at NOW = 100. -/
def ready (m : DriveMode) : State :=
  { fresh m with lines := ⟨.low, .low, .high, .high⟩, lastMs := 100, lastMsWritten := true, ds := .configured, now := 105 }

/-- A frame has just been accepted. -/
def sending : State :=
  { ready .polled with ds := .running, ser := ⟨true, 0x20080, 19, .data, true⟩, history := [.frame 0x20080] }

/-- The same, with the serializer in a given phase and index, and the lines that go with it. -/
def sendingAt (idx : BitVec 5) (ph : SerPhase) : State :=
  { sending with
    ser := ⟨true, 0x20080, idx, ph, true⟩
    lines := ⟨.low, if ph = .clkLo then .high else .low, if ph = .latchHi then .low else .high, .high⟩ }

/-- A frame has been sent. -/
def sent : State := { ready .polled with ds := .running, chip := ⟨0x20080, 0x20080⟩, history := [.frame 0x20080] }

/-- Timer mode, armed, with a firing to service. -/
def fired : State := { ready .timer with armed := true, firePend := true }

/-- The same, with a log-off pending. -/
def leaving : State := { fired with logoffPend := true }

/-- The greeting's snapshot (L1.5). -/
def greeting : Snapshot := ⟨⟨16, 16, 2, 4, 16, 16⟩, 0⟩

/-- What an outcome's next state holds. -/
def after {α : Type} (o : Host.Outcome State Fault Refusal) (f : State → α) : Option α :=
  match o with
  | .next s => some (f s)
  | .fault _ => none
  | .refused _ => none

/-- The fault of an outcome. -/
def faultOf (o : Host.Outcome State Fault Refusal) : Option Fault :=
  match o with
  | .fault f => some f
  | .next _ => none
  | .refused _ => none

/-- The refusal of an outcome. -/
def refusalOf (o : Host.Outcome State Fault Refusal) : Option Refusal :=
  match o with
  | .refused r => some r
  | .next _ => none
  | .fault _ => none

/-- A decoded word, where it decodes. -/
def decoded (w : CommandWord) : Option Instr := (decode w).toOption

/-- The reason a word is refused. -/
def reasonOf (w : CommandWord) : Option Reason :=
  match decode w with
  | .ok _ => none
  | .error r => some r

/-! ### Well-formedness: one ill-formed term for each check -/

theorem test_wf_compose_gate3 : Instr.wellFormed (.compose 3 0 0 true) = false := by decide
theorem test_wf_compose_gate2 : Instr.wellFormed (.compose 2 0 0 true) = true := by decide
theorem test_wf_five_digits : Call.wellFormed (.setDisplay [0, 1, 2, 3, 4]) = false := by decide
theorem test_wf_digit_above : Call.wellFormed (.setDisplay [0, 1, 2, 3, 4, 256]) = false := by decide
theorem test_wf_digit_below : Call.wellFormed (.update [-1, 1, 2, 3, 4, 5] 0) = false := by decide
theorem test_wf_period_above : Call.wellFormed (.update [0, 1, 2, 3, 4, 5] 2147483648) = false := by decide
theorem test_wf_period_below : Call.wellFormed (.update [0, 1, 2, 3, 4, 5] (-2147483649)) = false := by decide
theorem test_wf_call : Call.wellFormed (.update [0, 1, 2, 3, 4, 255] (-2147483648)) = true := by decide

/-- SEG(0, 16) = 0x01 (L2.8). -/
def lampOn : Config := { demo .polled with segV1 := (demo .polled).segV1.set 0 (glyphs.set 16 0x01) }
/-- A pattern with bit 7 set (20_memory.md R31). -/
def bitSeven : Config := { demo .polled with segV1 := (demo .polled).segV1.set 5 (glyphs.set 3 0x80) }
def notInjective : Config := { demo .polled with perm := #v[0, 0, 2, 3, 4, 5, 6, 7] }
def movesSeven : Config := { demo .polled with perm := #v[7, 1, 2, 3, 4, 5, 6, 0] }
def tooFast : Config := { demo .polled with settleNs := 1999 }

theorem test_wf_demo : (demo .polled).wellFormed = true := by decide
theorem test_wf_blank_not_zero : lampOn.tableOk .v1 = false := by decide
theorem test_wf_bit_seven : bitSeven.tableOk .v1 = false := by decide
theorem test_wf_perm_not_injective : notInjective.permOk = false := by decide
theorem test_wf_perm_moves_seven : movesSeven.permOk = false := by decide
theorem test_wf_settle_below : tooFast.settleOk = false := by decide
theorem test_bad_config_is_refused : refusalOf (instantiate lampOn) = some .badConfig := by decide

/-! ### Decoding: words written out from the fields of R55 -/

theorem test_decode_init : decoded 0x000000000000000000000001 = some .init := by decide
theorem test_decode_setDisplay :
    decoded 0x000000000605040302010002 = some (.setDisplay ⟨1, 2, 3, 4, 5, 6⟩) := by decide
theorem test_decode_update :
    decoded 0x000003E80504030201000003 = some (.update ⟨0, 1, 2, 3, 4, 5⟩ 1000) := by decide
theorem test_decode_update_negative :
    decoded 0x800000001010101010100003 = some (.update ⟨16, 16, 16, 16, 16, 16⟩ (-2147483648)) := by decide
theorem test_decode_clear : decoded 0x000000000605040302010004 = some .clear := by decide
theorem test_decode_logOff : decoded 0x000000000000000000000005 = some .logOff := by decide
theorem test_decode_power_off : decoded 0x000000000000000000000006 = some (.power false) := by decide
theorem test_decode_power_on : decoded 0x000000000000000000000016 = some (.power true) := by decide
theorem test_decode_tick : decoded 0x000000000000000000000007 = some .tick := by decide
/-- ON = 1 is ignored by TICK (R61). -/
theorem test_decode_tick_ignores_on : decoded 0x000000000000000000000017 = some .tick := by decide
theorem test_decode_op0 : reasonOf 0x000000000000000000000000 = some .reservedOp := by decide
theorem test_decode_op8 : reasonOf 0x000000000000000000000008 = some .reservedOp := by decide
theorem test_decode_opF : reasonOf 0x00000000000000000000000F = some .reservedOp := by decide
theorem test_decode_rsv_low : reasonOf 0x000000000000000000000022 = some .reservedBits := by decide
theorem test_decode_rsv_high : reasonOf 0x000000000000000000008001 = some .reservedBits := by decide
theorem test_decode_rsv_all : reasonOf 0x00000000101004021010FFE3 = some .reservedBits := by decide
theorem test_decode_table_word :
    decodeTableWord 96 0x000000001010040210100003 = some (.update ⟨16, 16, 2, 4, 16, 16⟩ 0) := by decide

/-! ### The textual syntax (R63) -/

theorem test_text_update :
    Assembler.assembleText "update([16,16,2,4,16,16], 0)".toList = some 0x000000001010040210100003 := by decide
theorem test_text_update_negative :
    Assembler.assembleText "update([7,8,9,10,11,0xC], -1)".toList = some 0xFFFFFFFF0C0B0A0908070003 := by decide
theorem test_text_setDisplay :
    Assembler.assembleText "set_display([1,2,3,4,5,6])".toList = some 0x000000000605040302010002 := by decide
theorem test_text_power : Assembler.assembleText "power(true)".toList = some 0x16 := by decide
theorem test_text_five_digits : Assembler.assembleText "set_display([1,2,3,4,5])".toList = none := by decide
theorem test_text_digit_above : Assembler.assembleText "set_display([1,2,3,4,5,256])".toList = none := by decide
theorem test_text_with_pins : Assembler.assembleText "init(pins)".toList = none := by decide

/-! ### One step of each operation: vectors of 95_test_vectors.md L1, L2 and L3 -/

/-- L2.7, from reset at NOW = 1234. -/
theorem test_init : after (exec .init { fresh .timer with now := 1234 }) (fun s => (s.lines, s.lastMs, s.ds, s.armed)) =
    some (⟨.low, .low, .high, .high⟩, 1234, .configured, false) := by decide
theorem test_init_twice : after (exec .init (ready .timer)) (fun s => (s.history, s.refusal, s.ds)) =
    some ([.refused .reinit], true, .configured) := by decide
/-- L2.7: PER = 1000, VIS = 0, T = 300 before. -/
theorem test_setDisplay :
    after (exec (.setDisplay ⟨1, 2, 3, 4, 5, 6⟩)
      { ready .timer with snap := ⟨Digits.blank, 1000⟩, blink := ⟨false, 300⟩ }) (fun s => (s.snap, s.blink, s.armed)) =
    some (⟨⟨1, 2, 3, 4, 5, 6⟩, 1000⟩, ⟨true, 0⟩, false) := by decide
/-- L2.7: `update([0,1,2,3,4,5], 1000)` in timer mode. -/
theorem test_update_arms :
    after (exec (.update ⟨0, 1, 2, 3, 4, 5⟩ 1000) (ready .timer)) (fun s => (s.snap, s.armed)) =
    some (⟨⟨0, 1, 2, 3, 4, 5⟩, 1000⟩, true) := by decide
/-- L2.7: an UPDATE after LOG_OFF and before the service cancels the teardown. -/
theorem test_update_cancels_logOff :
    after (exec (.update ⟨0, 1, 2, 3, 4, 5⟩ 1000) leaving) (fun s => (s.logoffPend, s.armed)) = some (false, true) := by
  decide
/-- L2.7: PER = 1000 before. -/
theorem test_clear :
    after (exec .clear { ready .polled with snap := ⟨⟨1, 2, 3, 4, 5, 6⟩, 1000⟩, blink := ⟨false, 7⟩ })
      (fun s => (s.snap, s.blink)) = some (⟨⟨16, 16, 16, 16, 16, 16⟩, -1⟩, ⟨true, 0⟩) := by decide
/-- L2.7: log_off() with ARMED = 1. -/
theorem test_logOff_armed :
    after (exec .logOff { fired with snap := greeting }) (fun s => (s.snap, s.logoffPend, s.armed)) =
    some (⟨⟨16, 16, 16, 16, 16, 16⟩, -1⟩, true, true) := by decide
/-- L2.7: log_off() with ARMED = 0. -/
theorem test_logOff_disarmed : after (exec .logOff (ready .timer)) (fun s => s.logoffPend) = some false := by decide
/-- L2.7: power(true) twice sets, and does not toggle. -/
theorem test_power_on_again : after (exec (.power true) (ready .polled)) (fun s => s.lines.blankN) = some .high := by
  decide
theorem test_power_off : after (exec (.power false) sending) (fun s => (s.lines.blankN, s.ser, s.chip)) =
    some (.low, sending.ser, sending.chip) := by decide
/-- L2.6: LAST_MS = 100, NOW = 104. -/
theorem test_tick_early :
    after (exec .tick { ready .polled with now := 104 }) (fun s => (framesOf s.history, s.gate, s.lastMs)) =
    some ([], 0, 100) := by decide
/-- L2.6: LAST_MS = 0xFFFFFFFE, NOW = 3; the first frame of L1.5. -/
theorem test_tick_wraps :
    after (exec .tick { ready .polled with snap := greeting, lastMs := 0xFFFFFFFE, now := 3 })
      (fun s => (framesOf s.history, s.gate, s.lastMs, s.ds)) = some ([0x16600], 1, 3, .running) := by decide
/-- L2.6: TIMER_FIRE twice. -/
theorem test_timerFire_coalesces : after (exec .timerFire fired) (fun s => s.firePend) = some true := by decide
/-- L2.6: a service that sees a log-off. -/
theorem test_timerService_tears_down :
    after (exec .timerService leaving) (fun s => (s.history, s.armed, s.firePend, s.logoffPend, s.ds)) =
    some ([], false, false, false, .stopped) := by decide
/-- L2.6 and L1.5, the third frame. -/
theorem test_timerService_frame :
    after (exec .timerService { fired with snap := greeting, gate := 2, now := 15 })
      (fun s => (framesOf s.history, s.gate, s.lastMs, s.ds)) = some ([0x4805B], 0, 15, .running) := by decide
/-- L2.1: (19, CLK_LO) goes to (18, DATA). -/
theorem test_serStep_next_bit :
    after (exec .serStep (sendingAt 19 .clkLo)) (fun s => (s.lines.clk, s.ser.idx, s.ser.phase)) =
    some (.low, 18, .data) := by decide
/-- L2.1 and L2.9: the last event latches SR. -/
theorem test_serStep_latches :
    after (exec .serStep { sendingAt 0 .latchHi with chip := ⟨0x20080, 0⟩ })
      (fun s => (s.lines.latchN, s.ser.busy, s.chip.out)) = some (.high, false, 0x20080) := by decide
/-- R70's example. -/
theorem test_serStart :
    after (exec (.serStart 0x16600) (ready .polled)) (fun s => s.ser) = some ⟨true, 0x16600, 19, .data, true⟩ := by
  decide
theorem test_serStart_busy : faultOf (exec (.serStart 0x16600) sending) = some .serStartBusy := by decide
/-- R74's example. -/
theorem test_setBlanking : after (exec (.setBlanking true) (ready .polled)) (fun s => s.lines.blankN) = some .low := by
  decide
/-- L2.2. -/
theorem test_lookup : after (exec (.lookup 5 15) (fresh .polled)) (fun s => s.value) = some (some (.pattern 0x71)) := by
  decide
theorem test_lookup_clamps :
    after (exec (.lookup 0 32) (fresh .polled)) (fun s => s.value) = some (some (.pattern 0x00)) := by decide
/-- L2.3. -/
theorem test_compose_gate1 :
    after (exec (.compose 1 0 15 true) (fresh .polled)) (fun s => s.value) = some (some (.frame 0x271BF)) := by decide
theorem test_compose_gate2 :
    after (exec (.compose 2 17 9 false) (fresh .polled)) (fun s => s.value) = some (some (.frame 0x46F00)) := by decide
/-- L2.4. -/
theorem test_nextGate_wraps :
    after (exec .nextGate { fresh .polled with gate := 2 }) (fun s => (s.value, s.gate)) =
    some (some (.gate .gate2), 0) := by decide
/-- R95's example, both ticks. -/
theorem test_blinkStep_before_flip :
    after (exec (.blinkStep 1000 5) { fresh .polled with blink := ⟨true, 495⟩ }) (fun s => (s.value, s.blink)) =
    some (some (.visible true), ⟨true, 500⟩) := by decide
theorem test_blinkStep_flips :
    after (exec (.blinkStep 1000 5) { fresh .polled with blink := ⟨true, 500⟩ }) (fun s => (s.value, s.blink)) =
    some (some (.visible false), ⟨false, 5⟩) := by decide
/-- R96's example. -/
theorem test_blinkReset :
    after (exec .blinkReset { fresh .polled with blink := ⟨false, 300⟩ }) (fun s => s.blink) = some ⟨true, 0⟩ := by decide
/-- L3.3, step 10: the frame after the log-off continues the cycle. -/
theorem test_tickBody :
    after (exec (.tickBody 20)
      { ready .timer with snap := ⟨⟨7, 8, 9, 10, 11, 12⟩, -1⟩, gate := 1, lastMs := 5 })
      (fun s => (framesOf s.history, s.gate, s.lastMs)) = some ([0x27C7F], 2, 20) := by decide
/-- Run by itself at reset, TICK_BODY reads the value LAST_MS holds there (log 9): gate 0 of six blanks. -/
theorem test_tickBody_at_reset :
    after (exec (.tickBody 20) (fresh .polled)) (fun s => (framesOf s.history, s.gate, s.lastMs)) =
    some ([0x10000], 1, 20) := by decide
/-- R126, R14: a state past INIT in which LAST_MS was never written is one the rules make unreachable. -/
theorem test_step_faults_past_init_unwritten :
    faultOf (step { ready .polled with lastMsWritten := false, schedule := [⟨.refresh, 0⟩] }) =
    some (.brokenInvariant .lastMsWritten) := by decide
theorem test_publish_keeps_period :
    after (exec (.publish ⟨1, 2, 3, 4, 5, 6⟩ none) { ready .polled with snap := greeting }) (fun s => s.snap) =
    some ⟨⟨1, 2, 3, 4, 5, 6⟩, 0⟩ := by decide

/-- The host's placement: the very next step runs the word. -/
theorem test_step_runs_placed_word :
    after (step (State.reset.withFetchWord 96 1)) (fun s => s.ds) = some .configured := by decide
/-- L2.8: TICK before INIT. -/
theorem test_step_refuses_tick_before_init :
    after (step (State.reset.withFetchWord 96 7)) (fun s => s.history) = some [.refused .notInitialized] := by decide

/-! ### Witnesses: a concrete state and operands that meet all the hypotheses of each statement -/

/-- A host turn next, with a word on the port. -/
def hosting (s : State) (w : CommandWord) : State := { s with schedule := [⟨.host, 107⟩], port := [w] }

/-- A turn of another agent next. -/
def turning (s : State) (a : Agent) : State := { s with schedule := [⟨a, 107⟩] }

theorem witness_ResetStateHoldsTheStatedValues : ∃ c s, s = State.resetWith c := ⟨demo .polled, _, rfl⟩

theorem witness_BadTableIsRefusedAtInstantiation :
    (∃ slot, lampOn.romRead slot 16 ≠ 0) ∧ (∃ slot code, (bitSeven.romRead slot code).getLsbD 7 = true) ∧
    (demo .polled).wellFormed = true := ⟨⟨0, by decide⟩, ⟨5, 3, by decide⟩, by decide⟩

theorem witness_VariantTablesDifferByTheBitPermutation :
    ({ demo .polled with perm := #v[6, 0, 1, 2, 3, 4, 5, 7] } : Config).permOk = true := by decide

theorem witness_EncodedCommandsDecodeToThemselves : encode (.power true) = some 0x16 := by decide

theorem witness_DecodedWordsEncodeToTheirReadFields :
    decode 0x000003E80504030201000003 = .ok (.update ⟨0, 1, 2, 3, 4, 5⟩ 1000) := rfl

theorem witness_MaskedMatchSelectsTheOperation :
    ((0x11 : CommandWord) &&& 0xFFEF = 1) ∧
    ((0x000000000605040302010012 : CommandWord) &&& 0xFFEF = 2) ∧
    ((0xFFFFFFFF1010101010100003 : CommandWord) &&& 0xFFEF = 3) ∧ ((0x04 : CommandWord) &&& 0xFFEF = 4) ∧
    ((0x05 : CommandWord) &&& 0xFFEF = 5) ∧ ((0x16 : CommandWord) &&& 0xFFEF = 6) ∧
    ((0x07 : CommandWord) &&& 0xFFEF = 7) ∧ (0xFFE0 : CommandWord).toNat % 16 = 0 ∧
    8 ≤ (0x08 : CommandWord).toNat % 16 := by decide

theorem witness_UnreadOperandFieldsAreIgnored :
    ((0x4 : CommandWord).toNat % 16 = 4 ∧
      (0x4 : CommandWord) &&& 0xFFEF = (0xFFFFFFFFFFFFFFFFFFFF0014 : CommandWord) &&& 0xFFEF) ∧
    ((0x16 : CommandWord).toNat % 16 = 6 ∧
      (0x16 : CommandWord) &&& 0xFFFF = (0xFFFFFFFFFFFFFFFFFFFF0016 : CommandWord) &&& 0xFFFF) ∧
    ((0x602 : CommandWord).toNat % 16 = 2 ∧ (0x602 : CommandWord) &&& 0xFFFFFFFFFFFFFFEF =
      (0xFFFFFFFF0000000000000612 : CommandWord) &&& 0xFFFFFFFFFFFFFFEF) ∧
    ((0x3 : CommandWord).toNat % 16 = 3 ∧ (0x3 : CommandWord) &&& 0xFFFFFFFFFFFFFFFFFFFFFFEF =
      (0x13 : CommandWord) &&& 0xFFFFFFFFFFFFFFFFFFFFFFEF) := by decide

theorem witness_WellFormedCallsAssembleToTheirFields :
    ((∀ x ∈ ([0, 255, 0, 255, 16, 17] : List Int), 0 ≤ x ∧ x ≤ 255) ∧ (-2147483648 : Int) ≤ -2147483648) ∧
    (-2147483648 : Int) ≤ 2147483647 ∧
    Call.assemble (.update [0, 255, 0, 255, 16, 17] (-2147483648)) = some 0x800000001110FF00FF000003 :=
  ⟨⟨by simp, by omega⟩, by omega, by decide⟩

theorem witness_StepRunsTheDecodedCommand :
    (hosting (fresh .polled) 1).brokenRule = none ∧ (hosting (fresh .polled) 1).schedule = ⟨.host, 107⟩ :: [] ∧
    (hosting (fresh .polled) 1).port = 1 :: [] ∧ decode 1 = .ok .init ∧
    ¬ (Instr.init = .tick ∧ (hosting (fresh .polled) 1).ds ≠ .uninit ∧
      (hosting (fresh .polled) 1).cfg.driveMode = .polled ∧ (hosting (fresh .polled) 1).ser.busy = true) :=
  ⟨by decide, rfl, rfl, rfl, by decide⟩

/-- A TICK that is not held meets them too. -/
theorem witness_StepRunsTheDecodedCommand_tick :
    (hosting (ready .polled) 7).brokenRule = none ∧ decode 7 = .ok .tick ∧ (hosting (ready .polled) 7).ser.busy = false :=
  ⟨by decide, rfl, rfl⟩

theorem witness_StepRunsTheAgentOfItsTurn :
    (turning fired .timer).brokenRule = none ∧ (turning fired .timer).schedule = ⟨.timer, 107⟩ :: [] ∧
    (turning fired .refresh).brokenRule = none ∧ (turning fired .refresh).schedule = ⟨.refresh, 107⟩ :: [] ∧
    (turning sending .serializer).brokenRule = none ∧
    (turning sending .serializer).schedule = ⟨.serializer, 107⟩ :: [] := by decide

theorem witness_FreeTurnsAndWordsStandInForAbsentOnes :
    (fresh .polled).schedule = [] ∧ (turning (fresh .polled) .host).port = [] ∧
    (turning (fresh .polled) .host).schedule = ⟨.host, 107⟩ :: [] := by decide

theorem witness_HeldTickStaysOnThePort :
    (hosting sending 7).brokenRule = none ∧ (hosting sending 7).schedule = ⟨.host, 107⟩ :: [] ∧
    (hosting sending 7).port = 7 :: [] ∧ decode 7 = .ok .tick ∧ (hosting sending 7).ds ≠ .uninit ∧
    (hosting sending 7).cfg.driveMode = .polled ∧ (hosting sending 7).ser.busy = true :=
  ⟨by decide, rfl, rfl, rfl, by decide, rfl, rfl⟩

/-- OP = 0, OP = 8 and RSV = 1. -/
theorem witness_StepRefusesReservedWords :
    (∀ w, (hosting (ready .polled) w).brokenRule = none ∧ (hosting (ready .polled) w).schedule = ⟨.host, 107⟩ :: [] ∧
      (hosting (ready .polled) w).port = w :: []) ∧
    (0x0 : CommandWord).toNat % 16 = 0 ∧ 8 ≤ (0x8 : CommandWord).toNat % 16 ∧
    (0x22 : CommandWord).toNat / 32 % 2048 ≠ 0 := ⟨fun _ => ⟨rfl, rfl, rfl⟩, by decide⟩

theorem witness_InitDrivesTheLinesAndConfigures :
    ((fresh .timer).ds = .uninit ∧ (fresh .timer).lines = ⟨.z, .z, .z, .z⟩) ∧ (ready .timer).ds ≠ .uninit := by decide

theorem witness_SetDisplayPublishesDigitsAndKeepsThePeriod :
    (fresh .polled).ds = .uninit ∧ (ready .polled).ds ≠ .uninit := by decide

theorem witness_UpdatePublishesAndArmsInTimerMode :
    (fresh .polled).ds = .uninit ∧ ((ready .polled).ds ≠ .uninit ∧ (ready .polled).cfg.driveMode = .polled) ∧
    ((ready .timer).ds ≠ .uninit ∧ (ready .timer).cfg.driveMode = .timer) ∧
    ({ ready .timer with ds := .stopped } : State).ds ≠ .uninit := by decide

theorem witness_ClearPublishesBlankDigits : (fresh .polled).ds = .uninit ∧ (ready .polled).ds ≠ .uninit := by decide

theorem witness_LogOffPublishesAndRequestsTheTeardown :
    (fresh .timer).ds = .uninit ∧ ((ready .polled).ds ≠ .uninit ∧ (ready .polled).cfg.driveMode = .polled) ∧
    ((ready .timer).ds ≠ .uninit ∧ (ready .timer).cfg.driveMode = .timer) := by decide

theorem witness_PowerSetsTheBlankingLine : (fresh .timer).ds = .uninit ∧ sending.ds ≠ .uninit := by decide

/-- The boundary: 4 and 5 milliseconds for TICK_MS = 5. -/
theorem witness_TickProducesAFrameWhenDue :
    (fresh .polled).ds = .uninit ∧ ((ready .timer).ds ≠ .uninit ∧ (ready .timer).cfg.driveMode = .timer) ∧
    (sending.ds ≠ .uninit ∧ sending.cfg.driveMode = .polled ∧ sending.ser.busy = true) ∧
    ((ready .polled).ds ≠ .uninit ∧ (ready .polled).cfg.driveMode = .polled ∧ (ready .polled).ser.busy = false ∧
      (104 - (ready .polled).lastMs).toNat < (ready .polled).cfg.tickMs ∧
      (ready .polled).cfg.tickMs ≤ ((ready .polled).now - (ready .polled).lastMs).toNat ∧
      (ready .polled).gate = GateId.gate0.bits ∧
      (ready .polled).blink.step (ready .polled).snap.per ((ready .polled).now - (ready .polled).lastMs) =
        (false, ⟨true, 0⟩)) := by decide

theorem witness_CommandsBeforeInitAreRefused :
    Instr.hostOp .tick = some .tick ∧ HostOp.tick ≠ .init ∧ (fresh .timer).ds = .uninit := by decide

theorem witness_TimerFireSetsFirePending : fired.cfg.driveMode = .timer ∧ fired.armed = true := by decide

theorem witness_TimerServiceTearsDownOrProducesAFrame :
    (leaving.firePend = true ∧ leaving.ser.busy = false ∧ leaving.logoffPend = true) ∧
    (fired.firePend = true ∧ fired.ser.busy = false ∧ fired.logoffPend = false ∧
      fired.gate = GateId.gate0.bits ∧
      fired.blink.step fired.snap.per (fired.now - fired.lastMs) = (false, ⟨true, 0⟩)) := by decide

theorem witness_DisabledOperationsChangeNothing :
    ((ready .polled).cfg.driveMode = .polled) ∧ ((ready .timer).armed = false) ∧ ((ready .timer).firePend = false) ∧
    ({ fired with ser := sending.ser } : State).ser.busy = true ∧ (ready .polled).ser.busy = false := by decide

/-- Each phase, at the first and the last bit. -/
theorem witness_SerStepPerformsTheNextPinEvent :
    ∀ ph ∈ [SerPhase.data, .clkHi, .clkLo, .latchLo, .latchHi], ∀ idx ∈ [(0 : BitVec 5), 19],
      (sendingAt idx ph).ser.busy = true ∧ (sendingAt idx ph).ser.idx.toNat ≤ 19 ∧ (sendingAt idx ph).ser.phase = ph := by decide

/-- At CLK_HI the clock line is low and DATA is driven; and a state where it is not low. -/
theorem witness_SerStepPerformsTheNextPinEvent_clock :
    ((sendingAt 7 .clkHi).lines.clk = .low ∧ (sendingAt 7 .clkHi).lines.data = (if false then .high else .low)) ∧
    ({ sendingAt 7 .clkHi with lines := ⟨.low, .high, .high, .high⟩ } : State).lines.clk ≠ .low := by decide

theorem witness_SerStartAcceptsAFrame : (ready .polled).ser.busy = false ∧ sending.ser.busy = true := by decide

/-- Codes 0, 16, 17 and 255. -/
theorem witness_LookupClampsCodesToBlank :
    (0 : Byte).toNat = (0 : Fin 17).val ∧ (16 : Byte).toNat = (16 : Fin 17).val ∧ 17 ≤ (17 : Byte).toNat ∧
    (ready .polled).cfg.segOk = true ∧ 16 ≤ (16 : Byte).toNat ∧ 16 ≤ (255 : Byte).toNat := by decide

theorem witness_ComposeBuildsTheFrame :
    (3 : GateBits) = 3 ∧ (2 : GateBits) ≠ 3 ∧ (2 : Fin 6).val = (2 : GateBits).toNat ∧
    (5 : Fin 6).val = (2 : GateBits).toNat + 3 ∧ (0 : Fin 6).val = (0 : GateBits).toNat ∧
    (3 : Fin 6).val = (0 : GateBits).toNat + 3 := by decide

theorem witness_GatesOwnTheirDotBits : defaultDots (demo .polled) := by unfold defaultDots; decide

theorem witness_FrameFieldsCanBeReadBack :
    defaultDots (demo .polled) ∧ 0x4805B = composeFor (demo .polled) .gate2 2 16 true :=
  ⟨witness_GatesOwnTheirDotBits, by decide⟩

theorem witness_NextGateReturnsThenAdvances :
    (fresh .polled).gate = 0 ∧ ({ fresh .polled with gate := 1 } : State).gate = 1 ∧
    ({ fresh .polled with gate := 2 } : State).gate = 2 ∧ ({ fresh .polled with gate := 3 } : State).gate = 3 := by
  decide

theorem witness_GateCycleHasPeriodThree : (fresh .polled).gate = GateId.gate0.bits := by decide

/-- P = 0, -2^31, 1 with T = 0, and the two sides of T = H for P = 1000. -/
theorem witness_BlinkStepFollowsThePeriod :
    (0 : Word32).toInt = 0 ∧ (0x80000000 : Word32).toInt < 0 ∧
    (0 < (1 : Word32).toInt ∧ (1 : Word32).toInt / 2 ≤ (fresh .polled).blink.acc.toNat) ∧
    (0 < (1000 : Word32).toInt ∧ (1000 : Word32).toInt / 2 ≤ (500 : Accum).toNat ∧
      (499 : Accum).toNat < (1000 : Word32).toInt / 2) := by decide

theorem witness_BlinkAccumulatorNeverOverflows :
    0 < (0x7FFFFFFF : Word32).toInt ∧ (0x7FFFFFFF : Word32).toInt / 2 ≤ (0x1FFFFFFFF : Accum).toNat ∧
    (0x3FFFFFFE : Accum).toNat < (0x7FFFFFFF : Word32).toInt / 2 := by decide

/-- P = 1 (H = 0) and P = 10 (H = 5) with delta = 3, rows of L2.5. -/
theorem witness_BlinkRunLengthsAreTheHalfPeriod :
    (0 < (1 : Word32).toInt ∧ 0 < (5 : Word32).toNat ∧ ((0 : Nat) : Int) = (1 : Word32).toInt / 2) ∧
    (0 < (10 : Word32).toInt ∧ 0 < (3 : Word32).toNat ∧ ((5 : Nat) : Int) = (10 : Word32).toInt / 2 ∧ 0 < 5) ∧
    (List.range 8).map (visibleOn 10 3) = [true, true, false, false, true, true, false, false] := by decide

theorem witness_TickBodyProducesOneFrame :
    (ready .timer).ser.busy = false ∧ (ready .timer).gate = GateId.gate0.bits ∧
    (ready .timer).blink.step (ready .timer).snap.per (105 - (ready .timer).lastMs) = (false, ⟨true, 0⟩) := by decide

theorem witness_UnreachableStatesFaultByName :
    ({ ready .timer with gate := 3 } : State).gate = 3 ∧ (sending.gate ≠ 3 ∧ sending.ser.busy = true) ∧
    (({ ready .polled with gate := 3 } : State).ds ≠ .uninit ∧
      ({ ready .polled with gate := 3 } : State).cfg.driveMode = .polled ∧
      ({ ready .polled with gate := 3 } : State).ser.busy = false ∧
      ({ ready .polled with gate := 3 } : State).gate = 3 ∧ (ready .polled).cfg.tickMs ≤ (105 - 100 : Word32).toNat) ∧
    (({ fired with gate := 3 } : State).firePend = true ∧ ({ fired with gate := 3 } : State).logoffPend = false ∧
      ({ fired with gate := 3 } : State).ser.busy = false ∧ ({ fired with gate := 3 } : State).gate = 3) ∧
    ((sendingAt 20 .data).ser.busy = true ∧ 20 ≤ (sendingAt 20 .data).ser.idx.toNat) := by decide

/-! #### States that meet the invariants, and steps from them -/

theorem invariants_fresh : Invariants (fresh .timer) := by constructor <;> decide
theorem invariants_sending : Invariants sending := by constructor <;> decide
theorem invariants_sent : Invariants sent := by constructor <;> decide
theorem invariants_leaving : Invariants leaving := by constructor <;> decide

theorem tracks_sending : Tracks sending := by
  constructor
  · intro _; rfl
  · intro _; decide
  · intro _ h; exact absurd rfl h
  · intro h; cases h

theorem tracks_sent : Tracks sent := by
  constructor
  · intro h; cases h
  · intro h; cases h
  · intro h; cases h
  · intro _ f hf; cases hf; decide

theorem quiet_leaving : Quiet leaving := by constructor <;> decide

theorem witness_StepKeepsTheInvariants :
    ∃ s t, s = turning sending .serializer ∧ Invariants s ∧ step s = .next t :=
  ⟨_, _, rfl, by constructor <;> decide, rfl⟩

theorem witness_StepAlwaysCompletesUnderTheInvariants : Invariants sending := invariants_sending

theorem witness_StepKeepsTheChipTrackingTheFrames :
    ∃ s t, s = turning sending .serializer ∧ Invariants s ∧ Tracks s ∧ step s = .next t :=
  ⟨_, _, rfl, by constructor <;> decide, ⟨fun _ => rfl, fun _ => by decide, fun _ h => absurd rfl h, fun h => by cases h⟩,
    rfl⟩

theorem witness_SixtyTwoStepsDeliverTheFrame :
    sending.ser = ⟨true, 0x20080, 19, .data, true⟩ ∧ sending.lines.clk = .low ∧ sending.lines.latchN = .high := by decide

theorem witness_TransmissionEndsAfterItsRemainingSteps :
    Invariants sending ∧ sending.ser.busy = true ∧ 61 < serRemaining sending.ser :=
  ⟨invariants_sending, rfl, by decide⟩

theorem witness_TubesShowTheLastFrameBetweenTransmissions :
    (Invariants sent ∧ Tracks sent ∧ sent.ser.busy = false ∧ lastFrame sent.history = some 0x20080) ∧
    sent.lines.blankN = .high := ⟨⟨invariants_sent, tracks_sent, rfl, rfl⟩, rfl⟩

/-- The same with the display blanked. -/
theorem witness_TubesShowTheLastFrameBetweenTransmissions_blanked :
    ∃ s, s = { sent with lines := { sent.lines with blankN := .low } } ∧ Invariants s ∧ Tracks s ∧
      s.ser.busy = false ∧ lastFrame s.history = some 0x20080 ∧ s.lines.blankN = .low :=
  ⟨_, rfl, by constructor <;> decide,
    ⟨fun h => (by cases h), fun h => (by cases h), fun h => (by cases h), fun _ f hf => (by cases hf; decide)⟩, rfl, rfl, rfl⟩

theorem witness_LogOffSilencesTheDisplayUntilAnUpdate :
    (Invariants fired ∧ fired.ds ≠ .uninit ∧ fired.cfg.driveMode = .timer ∧ ∃ t, exec .logOff fired = .next t) ∧
    ∃ s t, s = turning leaving .refresh ∧ Invariants s ∧ Quiet s ∧ Host.Core.run Sys2Proof.core 1 s = .next t :=
  ⟨⟨by constructor <;> decide, by decide, rfl, _, rfl⟩,
    _, _, rfl, by constructor <;> decide, by constructor <;> decide, rfl⟩

/-- One service of a firing: a run with a frame and no publish. -/
theorem witness_FramesShowTheSnapshotGateByGate :
    ∃ s t, s = turning fired .refresh ∧ Invariants s ∧ s.gate = GateId.gate0.bits ∧
      Host.Core.run Sys2Proof.core 1 s = .next t ∧ t.history = s.history ++ [.frame 0x10000] ∧
      ¬ published [.frame 0x10000] ∧ (framesOf [.frame 0x10000])[0]? = some 0x10000 :=
  ⟨_, _, rfl, by constructor <;> decide, rfl, rfl, rfl, by unfold published; decide, rfl⟩

theorem witness_StepKeepsEveryFrameLaidOut :
    ∃ s t, s = turning sending .serializer ∧ defaultDots s.cfg ∧ (∀ f ∈ framesOf s.history, frameLaidOut f) ∧
      step s = .next t :=
  ⟨_, _, rfl, witness_GatesOwnTheirDotBits,
    fun f hf => by rw [List.mem_singleton.mp (show f ∈ [0x20080] from hf)]; unfold frameLaidOut; decide, rfl⟩

theorem witness_StepKeepsConfigurationHistoryAndMark : ∃ t, step (turning fired .refresh) = .next t := ⟨_, rfl⟩

theorem witness_GateAdvancesOnlyWithAFrame :
    ∃ t, (turning fired .refresh).gate = GateId.gate0.bits ∧ step (turning fired .refresh) = .next t := ⟨_, rfl, rfl⟩

theorem witness_OnlyPublishesWriteTheSnapshot :
    ∃ t, (∀ d, Instr.init ≠ .setDisplay d) ∧ (∀ d p, Instr.init ≠ .update d p) ∧ Instr.init ≠ .clear ∧
      Instr.init ≠ .logOff ∧ (∀ d p, Instr.init ≠ .publish d p) ∧ exec .init (fresh .timer) = .next t :=
  ⟨_, by simp, by simp, by simp, by simp, by simp, rfl⟩

theorem witness_TransmissionCannotBeDisturbed :
    ∃ t, Invariants sending ∧ sending.ser.busy = true ∧ Instr.power false ≠ .serStep ∧
      exec (.power false) sending = .next t := ⟨_, invariants_sending, rfl, by simp, rfl⟩

theorem witness_OnlyInitAndPowerWriteBlankN :
    ∃ t, Instr.serStep ≠ .init ∧ (∀ on, Instr.serStep ≠ .power on) ∧ (∀ e, Instr.serStep ≠ .setBlanking e) ∧
      exec .serStep sending = .next t := ⟨_, by simp, by simp, by simp, rfl⟩

/-- A polled and a timer state, five milliseconds after the last frame. -/
theorem witness_BothDriveModesProduceTheSameFrames :
    SameDisplay (ready .polled) fired ∧ (ready .polled).now = fired.now ∧ (ready .polled).gate ≠ 3 ∧
    (ready .polled).ds ≠ .uninit ∧ (ready .polled).cfg.driveMode = .polled ∧ (ready .polled).ser.busy = false ∧
    (ready .polled).cfg.tickMs ≤ ((ready .polled).now - (ready .polled).lastMs).toNat ∧
    fired.firePend = true ∧ fired.logoffPend = false ∧ fired.ser.busy = false :=
  ⟨⟨fun _ _ => rfl, rfl, rfl, rfl, rfl, rfl, rfl⟩, rfl, by decide, by decide, rfl, rfl, by decide, rfl, rfl, rfl⟩

end Sys2Proof.Tests
end

section
/-! SUPPORT. What the checks of a configuration say (20_memory.md R31, R32), the bits of a permuted pattern, and what
the default table and permutation hold, whatever the free glyphs and the free permutation are (log 2). -/

namespace Sys2Proof

/-! ### The bits of a permuted pattern (20_memory.md R32) -/

/-- One turn of `permuteByte`'s fold: bit `b` of `p` goes to bit `perm b` of `acc`. -/
def placeBit (perm : Vector (Fin 8) 8) (p acc : Byte) (b : Fin 8) : Byte :=
  if p.getLsbD b then acc ||| (1#8 <<< perm[b].val) else acc

theorem permuteByte_eq_foldl (perm : Vector (Fin 8) 8) (p : Byte) :
    permuteByte perm p = (List.finRange 8).foldl (placeBit perm p) 0#8 := rfl

theorem getLsbD_one_shiftLeft (j : Fin 8) (k : Nat) : (1#8 <<< j.val).getLsbD k = true ↔ j.val = k := by
  simp only [BitVec.getLsbD_shiftLeft, BitVec.getLsbD_one, Bool.and_eq_true, Bool.not_eq_true', decide_eq_true_eq,
    decide_eq_false_iff_not]
  omega

theorem placeBit_getLsbD (perm : Vector (Fin 8) 8) (p acc : Byte) (b : Fin 8) (k : Nat) :
    (placeBit perm p acc b).getLsbD k = true ↔
      acc.getLsbD k = true ∨ (p.getLsbD b = true ∧ perm[b].val = k) := by
  unfold placeBit
  by_cases hb : p.getLsbD b = true
  · simp only [hb, if_true, BitVec.getLsbD_or, Bool.or_eq_true, getLsbD_one_shiftLeft, true_and]
  · simp only [hb, Bool.false_eq_true, if_false, false_and, or_false]

theorem foldl_placeBit_getLsbD (perm : Vector (Fin 8) 8) (p : Byte) (k : Nat) (l : List (Fin 8)) (acc : Byte) :
    (l.foldl (placeBit perm p) acc).getLsbD k = true ↔
      acc.getLsbD k = true ∨ ∃ b ∈ l, p.getLsbD b = true ∧ perm[b].val = k := by
  induction l generalizing acc with
  | nil => simp
  | cons b l ih => simp only [List.foldl_cons, ih, placeBit_getLsbD, List.exists_mem_cons_iff, or_assoc]

/-- A bit of a permuted pattern is set exactly when a set bit of the pattern goes there (R32). -/
theorem permuteByte_getLsbD (perm : Vector (Fin 8) 8) (p : Byte) (k : Nat) :
    (permuteByte perm p).getLsbD k = true ↔ ∃ b : Fin 8, p.getLsbD b = true ∧ perm[b].val = k := by
  rw [permuteByte_eq_foldl, foldl_placeBit_getLsbD]
  simp

theorem permuteByte_zero (perm : Vector (Fin 8) 8) : permuteByte perm 0#8 = 0#8 := by
  have clear (k : Nat) : (permuteByte perm 0#8).getLsbD k = false := by
    rw [← Bool.not_eq_true, permuteByte_getLsbD]
    simp
  exact BitVec.eq_of_getLsbD_eq fun k _ => by rw [clear k, BitVec.getLsbD_zero]

/-! ### The checks of a configuration -/

theorem Config.tableOk_iff {c : Config} {v : Variant} :
    c.tableOk v = true ↔
      ∀ slot, c.segOf v slot 16 = 0#8 ∧ ∀ code, (c.segOf v slot code).getLsbD 7 = false := by
  simp [Config.tableOk]

theorem Config.permOk_iff {c : Config} :
    c.permOk = true ↔ (Function.Injective fun b : Fin 8 => c.perm[b]) ∧ c.perm[7] = 7 := by
  have entries : c.perm.toList = List.ofFn fun b : Fin 8 => c.perm[b] := by
    rw [← Vector.toList_ofFn]
    exact congrArg Vector.toList (Vector.ext fun i hi => by simp)
  rw [Config.permOk, Bool.and_eq_true, decide_eq_true_eq, decide_eq_true_eq, entries, List.nodup_ofFn]

/-- A legal permutation leaves bit 7 of a pattern where it is (R32). -/
theorem Config.permuteByte_getLsbD_seven {c : Config} (h : c.permOk = true) (p : Byte) :
    (permuteByte c.perm p).getLsbD 7 = p.getLsbD 7 := by
  obtain ⟨inj, fixes⟩ := Config.permOk_iff.mp h
  rw [Bool.eq_iff_iff, permuteByte_getLsbD]
  constructor
  · rintro ⟨b, hb, to7⟩
    have hb7 : b = 7 := inj (Fin.ext (to7.trans (congrArg Fin.val fixes).symm))
    rwa [hb7] at hb
  · intro h7
    exact ⟨7, h7, congrArg Fin.val fixes⟩

/-- R31 of the V1 table is R31 of the V2 table, since R32's permutation keeps 0 and bit 7. -/
theorem Config.tableOk_v2_of_v1 {c : Config} (hp : c.permOk = true) (h : c.tableOk .v1 = true) :
    c.tableOk .v2 = true := by
  rw [Config.tableOk_iff] at h ⊢
  intro slot
  obtain ⟨blank, bit7⟩ := h slot
  constructor
  · calc permuteByte c.perm (c.segOf .v1 slot 16) = permuteByte c.perm 0#8 := by rw [blank]
      _ = 0#8 := permuteByte_zero c.perm
  · intro code
    exact (Config.permuteByte_getLsbD_seven hp _).trans (bit7 code)

/-! ### The default table and permutation -/

/-- The pattern of a code in the default table, the same for every slot (R81). -/
def Config.defaultGlyph (code : Fin 17) : Byte :=
  if h : code.val < 16 then (Config.freeGlyph ⟨code.val, h⟩).setWidth 8 else 0#8

@[simp] theorem Config.default_segOf_v1 (slot : Fin 6) (code : Fin 17) :
    Config.default.segOf .v1 slot code = Config.defaultGlyph code := by
  simp [Config.segOf, Config.default, Config.defaultSeg, Config.defaultGlyph]

@[simp] theorem Config.default_segOf_v2 (slot : Fin 6) (code : Fin 17) :
    Config.default.segOf .v2 slot code = permuteByte Config.default.perm (Config.defaultGlyph code) :=
  congrArg (permuteByte Config.default.perm) (Config.default_segOf_v1 slot code)

theorem Config.defaultGlyph_blank : Config.defaultGlyph 16 = 0#8 := rfl

/-- A free glyph has seven bits, so its bit 7 is clear. -/
theorem Config.defaultGlyph_getLsbD_seven (code : Fin 17) : (Config.defaultGlyph code).getLsbD 7 = false := by
  unfold Config.defaultGlyph
  split <;> simp

theorem Config.default_perm_getElem (b : Fin 8) :
    Config.default.perm[b] = if h : b.val < 7 then (Config.freePerm ⟨b.val, h⟩).castSucc else 7 := by
  simp [Config.default, Config.defaultPerm]

theorem Config.default_perm_castSucc (b : Fin 7) :
    Config.default.perm[b.castSucc] = (Config.freePerm b).castSucc := by
  rw [Config.default_perm_getElem]
  exact dif_pos b.isLt

theorem Config.default_perm_last : Config.default.perm[Fin.last 7] = Fin.last 7 := by
  rw [Config.default_perm_getElem]
  exact dif_neg (Nat.lt_irrefl 7)

theorem Config.default_perm_injective : Function.Injective fun b : Fin 8 => Config.default.perm[b] := by
  intro a b hab
  cases a using Fin.lastCases with
  | last =>
    cases b using Fin.lastCases with
    | last => rfl
    | cast b =>
      simp only [Config.default_perm_last, Config.default_perm_castSucc] at hab
      exact absurd hab.symm (Fin.castSucc_ne_last _)
  | cast a =>
    cases b using Fin.lastCases with
    | last =>
      simp only [Config.default_perm_last, Config.default_perm_castSucc] at hab
      exact absurd hab (Fin.castSucc_ne_last _)
    | cast b =>
      simp only [Config.default_perm_castSucc] at hab
      rw [Config.freePerm.injective (Fin.castSucc_injective 7 hab)]

theorem Config.default_permOk : Config.default.permOk = true :=
  Config.permOk_iff.mpr ⟨Config.default_perm_injective, Config.default_perm_last⟩

theorem Config.default_tableOk_v1 : Config.default.tableOk .v1 = true := by
  rw [Config.tableOk_iff]
  intro slot
  constructor
  · rw [Config.default_segOf_v1, Config.defaultGlyph_blank]
  · intro code
    rw [Config.default_segOf_v1, Config.defaultGlyph_getLsbD_seven]

theorem Config.default_settleOk : Config.default.settleOk = true :=
  decide_eq_true (Nat.le_add_right 2000 Config.freeSettleExcess)

theorem Config.default_wellFormed : Config.default.wellFormed = true := by
  have v2 : Config.default.tableOk .v2 = true := Config.tableOk_v2_of_v1 Config.default_permOk Config.default_tableOk_v1
  simp only [Config.wellFormed, Config.segOk, Config.default_tableOk_v1, v2, Config.default_permOk,
    Config.default_settleOk, Bool.and_self]

/-- No entry of the default ROM depends on the slot, in either variant (R81). -/
theorem Config.default_romRead_uniform (slot slot' : Fin 6) (code : Fin 17) :
    Config.default.romRead slot code = Config.default.romRead slot' code := by
  unfold Config.romRead
  cases Config.default.variant with
  | v1 => rw [Config.default_segOf_v1, Config.default_segOf_v1]
  | v2 => rw [Config.default_segOf_v2, Config.default_segOf_v2]

/-- Settles O2: R5's defaults are read off the default instance, and its checks and uniformity hold for every glyph
set and permutation. -/
theorem defaultInstanceIsWellFormedAndUniform : Obligations.DefaultInstanceIsWellFormedAndUniform :=
  ⟨rfl, rfl, rfl, rfl, rfl, Nat.le_add_right 2000 Config.freeSettleExcess, Config.default_wellFormed,
    Config.default_romRead_uniform⟩

end Sys2Proof
end

section
/-! SUPPORT. When the operations of TIMER, REFRESH and SERIALIZER are not enabled, and that they then pass (00_scope.md
R8, 40_serializer.md R71, 45_refresh_tick.md R104, R105; log 8). -/

namespace Sys2Proof.Machine

theorem timerEnabled_eq_false {s : State} :
    s.timerEnabled = false ↔ s.cfg.driveMode = .polled ∨ s.armed = false := by
  unfold State.timerEnabled
  cases s.cfg.driveMode <;> simp

theorem serviceEnabled_eq_false {s : State} :
    s.serviceEnabled = false ↔ s.firePend = false ∨ s.ser.busy = true := by
  simp [State.serviceEnabled, or_iff_not_imp_left]

theorem exec_timerFire_of_disabled {s : State} (h : s.timerEnabled = false) : exec .timerFire s = .next s := by
  simp [exec, execTimerFire, h]

theorem exec_timerService_of_disabled {s : State} (h : s.serviceEnabled = false) :
    exec .timerService s = .next s := by
  simp [exec, execTimerService, h]

theorem exec_serStep_of_idle {s : State} (h : s.ser.busy = false) : exec .serStep s = .next s := by
  simp [exec, execSerStep, h]

/-- Settles O28: each premise is the negation of its operation's enabling condition. -/
theorem disabledOperationsChangeNothing : Obligations.DisabledOperationsChangeNothing := by
  intro s
  refine ⟨fun h => ?_, fun h => ?_, exec_serStep_of_idle⟩
  · exact exec_timerFire_of_disabled (timerEnabled_eq_false.mpr h)
  · exact exec_timerService_of_disabled (serviceEnabled_eq_false.mpr h)

end Sys2Proof.Machine
end

section
/-! SUPPORT. What each operation a step can run does to the invariants of 10_state.md R28 (with what makes them
inductive). Each lemma names the fields of `Invariants` that the operation's writes touch; the others carry over. -/

namespace Sys2Proof.Machine

/-! ### The output lines -/

@[simp] theorem ofBool_ne_z (b : Bool) : Level.ofBool b ≠ .z := by cases b <;> simp [Level.ofBool]

@[simp] theorem drive_data (l : Lines) (b : Bool) : l.drive .data b = { l with data := .ofBool b } := rfl
@[simp] theorem drive_clk (l : Lines) (b : Bool) : l.drive .clk b = { l with clk := .ofBool b } := rfl
@[simp] theorem drive_latchN (l : Lines) (b : Bool) : l.drive .latchN b = { l with latchN := .ofBool b } := rfl
@[simp] theorem drive_blankN (l : Lines) (b : Bool) : l.drive .blankN b = { l with blankN := .ofBool b } := rfl

/-- Every line is driven, as INIT leaves them (46_host_commands.md R111). -/
def Lines.Driven (l : Lines) : Prop := l.data ≠ .z ∧ l.clk ≠ .z ∧ l.latchN ≠ .z ∧ l.blankN ≠ .z

theorem Lines.Driven.drive {l : Lines} (h : l.Driven) (p : Pin) (b : Bool) : (l.drive p b).Driven := by
  obtain ⟨hdata, hclk, hlatch, hblank⟩ := h
  cases p
  case data => exact ⟨ofBool_ne_z b, hclk, hlatch, hblank⟩
  case clk => exact ⟨hdata, ofBool_ne_z b, hlatch, hblank⟩
  case latchN => exact ⟨hdata, hclk, ofBool_ne_z b, hblank⟩
  case blankN => exact ⟨hdata, hclk, hlatch, ofBool_ne_z b⟩

theorem Lines.Driven.ne_undriven {l : Lines} (h : l.Driven) : l ≠ Lines.undriven := by
  rintro rfl
  exact h.1 rfl

/-- INIT's four Emits set the lines, and besides them only the chip and the history change (R111). -/
theorem initLines_frame (s : State) :
    s.initLines = { s with lines := ⟨.low, .low, .high, .high⟩, chip := s.initLines.chip,
                           history := s.initLines.history } := rfl

@[simp] theorem initLines_cfg (s : State) : s.initLines.cfg = s.cfg := rfl
@[simp] theorem initLines_refusal (s : State) : s.initLines.refusal = s.refusal := rfl
@[simp] theorem initLines_history (s : State) :
    s.initLines.history =
      s.history ++ [.emit .data false, .emit .clk false, .emit .latchN true, .emit .blankN true] := by
  simp [State.initLines]

/-! ### The frame in flight -/

/-- How the serializer's registers and the two lines it clocks with stand to each other, from SER_START until the next
one (40_serializer.md R70, R71, R75). -/
structure Paced (r : Ser) (l : Lines) : Prop where
  written : r.written = true
  index : r.idx.toNat ≤ 19
  latch : r.phase = .latchLo ∨ r.phase = .latchHi → r.idx = 0
  clk : l.clk = if r.phase = .clkLo then .high else .low
  latchN : l.latchN = if r.busy = true ∧ r.phase = .latchHi then .low else .high

theorem paced_started (f : FrameWord) {l : Lines} (hclk : l.clk = .low) (hlatch : l.latchN = .high) :
    Paced (Ser.started f) l :=
  ⟨rfl, le_refl 19, by simp [Ser.started], hclk, hlatch⟩

theorem sub_one_toNat {i : BitVec 5} (h0 : i ≠ 0) : (i - 1).toNat = i.toNat - 1 := by bv_omega

section PinEvent

variable {s : State}

theorem pinEvent_of_data (hp : s.ser.phase = .data) :
    s.pinEvent = { s.emit .data (s.ser.frame.getLsbD s.ser.idx.toNat) with ser := { s.ser with phase := .clkHi } } := by
  simp only [State.pinEvent, hp]

theorem pinEvent_of_clkHi (hp : s.ser.phase = .clkHi) :
    s.pinEvent = { s.emit .clk true with ser := { s.ser with phase := .clkLo } } := by
  simp only [State.pinEvent, hp]

theorem pinEvent_of_clkLo_last (hp : s.ser.phase = .clkLo) (h0 : s.ser.idx = 0) :
    s.pinEvent = { s.emit .clk false with ser := { s.ser with phase := .latchLo } } := by
  simp only [State.pinEvent, hp, h0, if_true]

theorem pinEvent_of_clkLo_more (hp : s.ser.phase = .clkLo) (h0 : s.ser.idx ≠ 0) :
    s.pinEvent = { s.emit .clk false with ser := { s.ser with idx := s.ser.idx - 1, phase := .data } } := by
  simp only [State.pinEvent, hp, h0, if_false]

theorem pinEvent_of_latchLo (hp : s.ser.phase = .latchLo) :
    s.pinEvent = { s.emit .latchN false with ser := { s.ser with phase := .latchHi } } := by
  simp only [State.pinEvent, hp]

theorem pinEvent_of_latchHi (hp : s.ser.phase = .latchHi) :
    s.pinEvent = { s.emit .latchN true with ser := { s.ser with busy := false } } := by
  simp only [State.pinEvent, hp]

theorem pinEvent_busy (hp : s.ser.phase ≠ .latchHi) : s.pinEvent.ser.busy = s.ser.busy := by
  unfold State.pinEvent
  split
  case h_3 => simp only [apply_ite Ser.busy, ite_self]
  case h_5 h => exact absurd h hp
  all_goals rfl

/-- Each pin event puts CLK and LATCH_N at the levels of the phase it leads to (R71). -/
theorem pinEvent_paced (hb : s.ser.busy = true) (h : Paced s.ser s.lines) : Paced s.pinEvent.ser s.pinEvent.lines := by
  obtain ⟨hw, hidx, hlatch, hclk, hlatchN⟩ := h
  cases hp : s.ser.phase <;> simp only [hp, hb, reduceCtorEq, and_false, and_true, or_false, false_or, false_implies,
    true_implies, if_true, if_false] at hlatch hclk hlatchN
  case data =>
    rw [pinEvent_of_data hp]
    exact ⟨hw, hidx, by simp, hclk, by simpa using hlatchN⟩
  case clkHi =>
    rw [pinEvent_of_clkHi hp]
    exact ⟨hw, hidx, by simp, rfl, by simpa using hlatchN⟩
  case clkLo =>
    by_cases h0 : s.ser.idx = 0
    · rw [pinEvent_of_clkLo_last hp h0]
      exact ⟨hw, hidx, fun _ => h0, rfl, by simpa using hlatchN⟩
    · rw [pinEvent_of_clkLo_more hp h0]
      exact ⟨hw, by simp only [sub_one_toNat h0]; omega, by simp, rfl, by simpa using hlatchN⟩
  case latchLo =>
    rw [pinEvent_of_latchLo hp]
    exact ⟨hw, hidx, fun _ => hlatch, hclk, by simp [Lines.drive, Level.ofBool, hb]⟩
  case latchHi =>
    rw [pinEvent_of_latchHi hp]
    exact ⟨hw, hidx, fun _ => hlatch, by simpa [hp] using hclk, by simp [Lines.drive, Level.ofBool]⟩

/-- Only the last pin event ends a transmission, and it leaves CLK low (R71, R75). -/
theorem pinEvent_clk_of_done (hb : s.ser.busy = true) (h : Paced s.ser s.lines) (hdone : s.pinEvent.ser.busy = false) :
    s.pinEvent.lines.clk = .low := by
  by_cases hp : s.ser.phase = .latchHi
  · rw [(pinEvent_paced hb h).clk, pinEvent_of_latchHi hp]
    simp [hp]
  · rw [pinEvent_busy hp, hb] at hdone
    cases hdone

/-- Every pin event drives one line, and never BLANK_N (R71). -/
theorem pinEvent_lines (s : State) : ∃ p b, p ≠ .blankN ∧ s.pinEvent.lines = s.lines.drive p b := by
  unfold State.pinEvent
  split
  case h_1 => exact ⟨.data, _, by decide, rfl⟩
  case h_2 => exact ⟨.clk, _, by decide, rfl⟩
  case h_3 => exact ⟨.clk, _, by decide, rfl⟩
  case h_4 => exact ⟨.latchN, _, by decide, rfl⟩
  case h_5 => exact ⟨.latchN, _, by decide, rfl⟩

end PinEvent

end Sys2Proof.Machine

namespace Sys2Proof.Safety

open Sys2Proof Sys2Proof.Machine

variable {s : State}

/-! ### What the invariants say of one state -/

theorem Invariants.lines_driven (h : Invariants s) (hu : s.ds ≠ .uninit) : s.lines.Driven := h.driven hu

theorem Invariants.idle_of_uninit (h : Invariants s) (hu : s.ds = .uninit) : s.ser.busy = false := by
  rw [← Bool.not_eq_true]
  intro hb
  have hrun := h.busy_running hb
  rw [hu] at hrun
  cases hrun

theorem Invariants.armed_of_pending (h : Invariants s) (hf : s.firePend = true) : s.armed = true :=
  h.pending_armed (.inl hf)

theorem Invariants.initialized_of_armed (h : Invariants s) (ha : s.armed = true) : s.ds ≠ .uninit := by
  intro hu
  rw [h.uninit_disarmed hu] at ha
  cases ha

theorem Invariants.ne_stopped_of_armed (h : Invariants s) (ha : s.armed = true) : s.ds ≠ .stopped := by
  intro hs
  obtain ⟨hdis, -, -⟩ := h.stopped_flags hs
  rw [hdis] at ha
  cases ha

theorem Invariants.ne_stopped_of_polled (h : Invariants s) (hm : s.cfg.driveMode = .polled) : s.ds ≠ .stopped := by
  intro hs
  rw [h.stopped_timer hs] at hm
  cases hm

theorem Invariants.paced (h : Invariants s) (hb : s.ser.busy = true) : Paced s.ser s.lines :=
  ⟨h.busy_written hb, h.busy_index hb, h.busy_latch hb, h.busy_clk hb, by simpa [hb] using h.busy_latchN hb⟩

/-! ### The operations -/

/-- The history, the refusal mark, NOW and the model's own fields are in no invariant. -/
theorem Invariants.bookkeeping (h : Invariants s) (es : List Event) (r : Bool) (n : Word32) (ps : List CommandWord)
    (ts : List Turn) (d : Nat) (v : Option FnValue) :
    Invariants { s with history := es, refusal := r, now := n, port := ps, schedule := ts, draws := d, value := v } :=
  { h with }

theorem Invariants.refuse (h : Invariants s) (r : Reason) : Invariants (s.refuse r) := h.bookkeeping ..

theorem Invariants.accept (h : Invariants s) (op : HostOp) : Invariants (s.accept op) := h.bookkeeping ..

theorem Invariants.beginTurn (h : Invariants s) : Invariants s.beginTurn := h.bookkeeping ..

theorem Invariants.withPort (h : Invariants s) (ps : List CommandWord) : Invariants { s with port := ps } :=
  h.bookkeeping ..

theorem Invariants.publish (h : Invariants s) (hu : s.ds ≠ .uninit) (d : Digits) (p : Option Word32) :
    Invariants (s.publish d p) :=
  { h with uninit_reset := fun hu' => absurd hu' hu }

theorem Invariants.requestLogoff (h : Invariants s) (hm : s.cfg.driveMode = .timer) : Invariants s.requestLogoff :=
  { h with
    timer_flags := fun _ => hm
    pending_armed := by
      rintro (hf | hl)
      · exact h.pending_armed (.inl hf)
      · obtain hl | ha := Bool.or_eq_true .. |>.mp hl
        · exact h.pending_armed (.inr hl)
        · exact ha
    stopped_flags := fun hs => by
      obtain ⟨ha, hl, hf⟩ := h.stopped_flags hs
      simp [ha, hl, hf] }

theorem arm_ds_eq_uninit : s.arm.ds = .uninit ↔ s.ds = .uninit := by
  cases hd : s.ds <;> simp [hd]

theorem arm_ds_ne_stopped : s.arm.ds ≠ .stopped := by
  cases hd : s.ds <;> simp [hd]

theorem arm_ds_of_running (hr : s.ds = .running) : s.arm.ds = .running := by simp [hr]

theorem Invariants.arm (h : Invariants s) (hu : s.ds ≠ .uninit) (hm : s.cfg.driveMode = .timer) : Invariants s.arm :=
  { h with
    uninit_lines := arm_ds_eq_uninit.trans h.uninit_lines
    driven := fun _ => h.driven hu
    last_written := fun _ => h.last_written hu
    uninit_disarmed := fun hu' => absurd (arm_ds_eq_uninit.mp hu') hu
    uninit_reset := fun hu' => absurd (arm_ds_eq_uninit.mp hu') hu
    idle_lines := fun _ => h.idle_lines hu
    busy_running := fun hb => arm_ds_of_running (h.busy_running hb)
    timer_flags := fun _ => hm
    pending_armed := fun _ => rfl
    stopped_flags := fun hs => absurd hs arm_ds_ne_stopped
    stopped_timer := fun _ => hm }

theorem Invariants.setBlanking (h : Invariants s) (hu : s.ds ≠ .uninit) (e : Bool) : Invariants (s.setBlanking e) :=
  have hd : (s.setBlanking e).lines.Driven := (h.lines_driven hu).drive .blankN (!e)
  { h with
    uninit_lines := iff_of_false hu hd.ne_undriven
    driven := fun _ => hd }

/-- What INIT writes from UNINIT, whatever LAST_MS and the chip then hold (R111). -/
theorem Invariants.configured (h : Invariants s) (hu : s.ds = .uninit) (n : Word32) (c : Chip) (es : List Event) :
    Invariants { s with ds := .configured, lines := ⟨.low, .low, .high, .high⟩, lastMs := n, lastMsWritten := true,
                        chip := c, history := es } :=
  have hidle := h.idle_of_uninit hu
  { h with
    uninit_lines := by simp [Lines.undriven]
    driven := by simp
    last_written := fun _ => rfl
    uninit_disarmed := by simp
    uninit_reset := by simp
    idle_lines := fun _ _ => ⟨rfl, rfl⟩
    busy_running := by simp [hidle]
    busy_clk := by simp [hidle]
    busy_latchN := by simp [hidle]
    stopped_flags := by simp
    stopped_timer := by simp }

theorem Invariants.init (h : Invariants s) (hu : s.ds = .uninit) :
    Invariants ({ s.initLines.writeLastMs s.now with ds := .configured }.accept .init) := by
  rw [initLines_frame]
  exact (h.configured hu ..).accept .init

theorem Invariants.firePending (h : Invariants s) (hm : s.cfg.driveMode = .timer) (ha : s.armed = true) :
    Invariants s.firePending :=
  { h with
    timer_flags := fun _ => hm
    pending_armed := fun _ => ha
    stopped_flags := fun hs => absurd hs (h.ne_stopped_of_armed ha) }

theorem Invariants.fireServiced (h : Invariants s) : Invariants s.fireServiced :=
  { h with
    timer_flags := by
      rintro (ha | hl | hf)
      · exact h.timer_flags (.inl ha)
      · exact h.timer_flags (.inr (.inl hl))
      · cases hf
    pending_armed := by
      rintro (hf | hl)
      · cases hf
      · exact h.pending_armed (.inr hl)
    stopped_flags := fun hs =>
      have ⟨ha, hl, _⟩ := h.stopped_flags hs
      ⟨ha, hl, rfl⟩ }

theorem Invariants.teardown (h : Invariants s) (ha : s.armed = true) (hf : s.firePend = false)
    (hb : s.ser.busy = false) : Invariants s.teardown :=
  have hu := h.initialized_of_armed ha
  { h with
    uninit_lines := iff_of_false (by simp) (h.lines_driven hu).ne_undriven
    driven := fun _ => h.driven hu
    last_written := fun _ => h.last_written hu
    uninit_disarmed := fun _ => rfl
    uninit_reset := by simp
    idle_lines := fun _ => h.idle_lines hu
    busy_running := fun hb' => by simp [hb] at hb'
    timer_flags := fun _ => h.timer_flags (.inl ha)
    pending_armed := by simp [hf]
    stopped_flags := fun _ => ⟨rfl, rfl, hf⟩
    stopped_timer := fun _ => h.timer_flags (.inl ha) }

/-- A state with a frame in flight meets the invariants where it is RUNNING with its lines driven and the serializer
keeps its pace; what SER_STEP writes is in nothing else. -/
theorem Invariants.withTransmission (h : Invariants s) (hr : s.ds = .running) {r : Ser} {l : Lines}
    (hp : Paced r l) (hd : l.Driven) (hidle : r.busy = false → l.clk = .low) (c : Chip) (es : List Event) :
    Invariants { s with ser := r, lines := l, chip := c, history := es } :=
  { h with
    uninit_lines := iff_of_false (by simp [hr]) hd.ne_undriven
    driven := fun _ => hd
    idle_lines := fun _ hb => ⟨hidle hb, by simpa [show r.busy = false from hb] using hp.latchN⟩
    busy_running := fun _ => hr
    busy_written := fun _ => hp.written
    busy_index := fun _ => hp.index
    busy_latch := fun _ => hp.latch
    busy_clk := fun _ => hp.clk
    busy_latchN := fun hb => by simpa [show r.busy = true from hb] using hp.latchN }

theorem Invariants.pinEvent (h : Invariants s) (hb : s.ser.busy = true) : Invariants s.pinEvent := by
  have hr := h.busy_running hb
  obtain ⟨p, b, -, hl⟩ := pinEvent_lines s
  have hd : s.pinEvent.lines.Driven := hl ▸ (h.lines_driven (by simp [hr])).drive p b
  rw [pinEvent_frame s]
  exact h.withTransmission hr (pinEvent_paced hb (h.paced hb)) hd
    (pinEvent_clk_of_done hb (h.paced hb)) _ _

theorem ticked_ds (hu : s.ds ≠ .uninit) (hs : s.ds ≠ .stopped) (n : Word32) (g : GateId) :
    (s.ticked n g).ds = .running := by
  cases hd : s.ds <;> simp_all [State.ticked]

theorem Invariants.ticked (h : Invariants s) (hu : s.ds ≠ .uninit) (hs : s.ds ≠ .stopped)
    (hb : s.ser.busy = false) (n : Word32) (g : GateId) : Invariants (s.ticked n g) :=
  have hr := ticked_ds hu hs n g
  have ⟨hclk, hlatch⟩ := h.idle_lines hu hb
  have hp : Paced (s.ticked n g).ser s.lines := paced_started _ hclk hlatch
  { h with
    gate_legal := bits_ne_three _
    uninit_lines := iff_of_false (by simp [hr]) (h.lines_driven hu).ne_undriven
    driven := fun _ => h.driven hu
    last_written := fun _ => rfl
    uninit_disarmed := by simp [hr]
    uninit_reset := by simp [hr]
    idle_lines := fun _ hb' => by cases hb'
    busy_running := fun _ => hr
    busy_written := fun _ => hp.written
    busy_index := fun _ => hp.index
    busy_latch := fun _ => hp.latch
    busy_clk := fun _ => hp.clk
    busy_latchN := fun _ => hlatch
    stopped_flags := by simp [hr]
    stopped_timer := by simp [hr] }

/-! ### Every step -/

theorem Invariants.hostEffect {i : Instr} {t : State} (h : Invariants s) (e : HostEffect s i t) : Invariants t := by
  cases e with
  | refused _ r => exact h.refuse r
  | init hu => exact h.init hu
  | setDisplay d hu => exact (h.publish hu d none).accept _
  | updatePolled d p hu => exact (h.publish hu d (some p)).accept _
  | updateTimer d p hu hm => exact ((h.publish hu d (some p)).arm hu hm).accept _
  | clear hu => exact (h.publish hu _ _).accept _
  | logOff hu hm => exact ((h.publish hu _ _).requestLogoff hm).accept _
  | power on hu => exact (h.setBlanking hu _).accept _
  | held => exact h
  | early => exact h.accept _
  | frame g hu hm hb => exact (h.ticked hu (h.ne_stopped_of_polled hm) hb _ g).accept _

theorem Invariants.stepEffect {t : State} (h : Invariants s) (e : StepEffect s t) : Invariants t := by
  have hturn := h.beginTurn
  cases e with
  | reserved r ps => exact (hturn.withPort ps).refuse r
  | held ps => exact hturn.withPort ps
  | host i op ps _ _ e => exact (hturn.withPort ps).hostEffect e
  | passed => exact hturn
  | fired hm ha => exact hturn.firePending hm ha
  | tornDown hf hb => exact hturn.fireServiced.teardown (h.armed_of_pending hf) rfl hb
  | frame g hf hb =>
    have ha := h.armed_of_pending hf
    exact hturn.fireServiced.ticked (h.initialized_of_armed ha) (h.ne_stopped_of_armed ha) hb _ g
  | pin hb => exact hturn.pinEvent hb

/-- Settles O46: every effect a step can have keeps the invariants. -/
theorem stepKeepsTheInvariants : Obligations.StepKeepsTheInvariants :=
  fun _ _ h hstep => h.stepEffect (step_effect hstep).2

/-! ### Reset -/

theorem invariants_reset (c : Config) : Invariants (State.resetWith c) := by
  constructor <;> simp [State.resetWith, Ser.reset, Lines.undriven]

/-- Before the first frame there is nothing the chip could have missed. -/
theorem tracks_of_no_frame (hb : s.ser.busy = false) (hn : lastFrame s.history = none) : Tracks s := by
  constructor <;> simp [hb, hn]

/-- Settles O45: at reset DS is UNINIT with every line undriven, and no frame has been accepted. -/
theorem resetMeetsTheInvariants : Obligations.ResetMeetsTheInvariants :=
  fun c => ⟨invariants_reset c, tracks_of_no_frame rfl rfl⟩

end Sys2Proof.Safety
end

section
/-! SUPPORT. How the chip follows the serializer (60_exceptions.md R133): what each operation a step can run does to
`Tracks`. -/

namespace Sys2Proof.Safety

open Sys2Proof Sys2Proof.Machine

/-! ### The frames of a history -/

theorem framesOf_append (es fs : List Event) : framesOf (es ++ fs) = framesOf es ++ framesOf fs := by
  induction es with
  | nil => rfl
  | cons e es ih => cases e <;> simp [framesOf, ih]

theorem lastFrame_append_of_no_frame (es : List Event) {fs : List Event} (h : framesOf fs = []) :
    lastFrame (es ++ fs) = lastFrame es := by
  rw [lastFrame, framesOf_append, h, List.append_nil, lastFrame]

theorem lastFrame_append_frame (es : List Event) (f : FrameWord) : lastFrame (es ++ [.frame f]) = some f := by
  simp [lastFrame, framesOf_append, framesOf]

variable {s t : State}

/-! ### The chip at a clock edge -/

/-- A rising CLK edge appends the bit on a driven DATA line to SR (R133). -/
theorem observe_clk (c : Chip) {l : Lines} {b : Bool} (hclk : l.clk = .low) (hdata : l.data = .ofBool b)
    (float : Bool) : c.observe l .clk true float = { c with sr := shiftIn c.sr b } := by
  cases b <;> simp [Chip.observe, hclk, hdata, Level.ofBool, Level.sample]

/-- The end of the latch pulse puts SR on OUT (R133). -/
theorem observe_latchN (c : Chip) {l : Lines} (h : l.latchN = .low) (float : Bool) :
    c.observe l .latchN true float = { c with out := c.sr } := by
  simp [Chip.observe, h]

/-- Where SR ends in the `19 - i` leading bits of a frame, shifting bit `i` in makes it end in the `20 - i` leading
ones. -/
theorem shiftIn_appends_bit {sr f : FrameWord} {i : Nat} (hi : i ≤ 19)
    (h : sr.toNat % 2 ^ (19 - i) = f.toNat / 2 ^ (i + 1)) :
    (shiftIn sr (f.getLsbD i)).toNat % 2 ^ (20 - i) = f.toNat / 2 ^ i := by
  have hbit : (f.getLsbD i).toNat = f.toNat / 2 ^ i % 2 := by
    rw [BitVec.getLsbD, Nat.toNat_testBit]
  have hsplit : 2 * (f.toNat / 2 ^ (i + 1)) + f.toNat / 2 ^ i % 2 = f.toNat / 2 ^ i := by
    rw [Nat.pow_succ, ← Nat.div_div_eq_div_mul]
    omega
  have hpow : 2 ^ (20 - i) = 2 * 2 ^ (19 - i) := by
    rw [← Nat.pow_succ', show (19 - i).succ = 20 - i by omega]
  calc (shiftIn sr (f.getLsbD i)).toNat % 2 ^ (20 - i)
      = (2 * sr.toNat + f.toNat / 2 ^ i % 2) % 2 ^ (20 - i) := by
        rw [shiftIn_toNat, hbit, Nat.mod_mod_of_dvd _ (Nat.pow_dvd_pow 2 (Nat.sub_le 20 i))]
    _ = 2 * (sr.toNat % 2 ^ (19 - i)) + f.toNat / 2 ^ i % 2 := by
        rw [hpow, Nat.mod_mul, Nat.mul_add_mod, Nat.mod_mod,
          show (2 * sr.toNat + f.toNat / 2 ^ i % 2) / 2 = sr.toNat by omega, Nat.add_comm]
    _ = f.toNat / 2 ^ i := by rw [h, hsplit]

/-! ### The operations that leave the chip alone -/

/-- `Tracks` reads the serializer, the chip, DATA and the last frame only. -/
theorem Tracks.of_eq (h : Tracks s) (hser : t.ser = s.ser) (hchip : t.chip = s.chip)
    (hdata : t.lines.data = s.lines.data) (hlast : lastFrame t.history = lastFrame s.history) : Tracks t := by
  constructor <;> rw [hser] <;> simp only [hchip, hdata, hlast]
  · exact h.sending
  · exact h.shifted
  · exact h.settled
  · exact h.sent

theorem Tracks.refuse (h : Tracks s) (r : Reason) : Tracks (s.refuse r) :=
  h.of_eq rfl rfl rfl (lastFrame_append_of_no_frame _ rfl)

theorem Tracks.accept (h : Tracks s) (op : HostOp) : Tracks (s.accept op) :=
  h.of_eq rfl rfl rfl (lastFrame_append_of_no_frame _ rfl)

theorem Tracks.publish (h : Tracks s) (d : Digits) (p : Option Word32) : Tracks (s.publish d p) :=
  h.of_eq rfl rfl rfl rfl

theorem Tracks.setBlanking (h : Tracks s) (e : Bool) : Tracks (s.setBlanking e) :=
  h.of_eq rfl rfl rfl (lastFrame_append_of_no_frame _ rfl)

/-- No frame was accepted before INIT: DATA would stand at a bit of it, and it is not driven. -/
theorem Tracks.no_frame_of_uninit (h : Tracks s) (hi : Invariants s) (hu : s.ds = .uninit) :
    lastFrame s.history = none := by
  cases hf : lastFrame s.history with
  | none => rfl
  | some f =>
    obtain ⟨-, -, hdata⟩ := h.sent (hi.idle_of_uninit hu) f hf
    rw [hi.uninit_lines.mp hu] at hdata
    exact absurd hdata.symm (ofBool_ne_z _)

theorem Tracks.init (h : Tracks s) (hi : Invariants s) (hu : s.ds = .uninit) :
    Tracks ({ s.initLines.writeLastMs s.now with ds := .configured }.accept .init) := by
  refine tracks_of_no_frame (hi.idle_of_uninit hu) ?_
  have hevents : ({ s.initLines.writeLastMs s.now with ds := .configured }.accept .init).history =
      s.history ++ [.emit .data false, .emit .clk false, .emit .latchN true, .emit .blankN true, .cmd .init] := by
    simp
  rw [hevents, lastFrame_append_of_no_frame _ rfl, h.no_frame_of_uninit hi hu]

/-! ### A frame accepted, and sent -/

theorem tracks_ticked (s : State) (n : Word32) (g : GateId) : Tracks (s.ticked n g) where
  sending _ := lastFrame_append_frame _ _
  shifted _ := by
    have hlt : (s.ticked n g).ser.frame.toNat < 2 ^ 20 := BitVec.isLt _
    have h0 : clocked (s.ticked n g).ser = 0 := rfl
    rw [h0, Nat.pow_zero, Nat.mod_one, Nat.div_eq_of_lt hlt]
  settled _ hp := absurd rfl hp
  sent hb := by cases hb

theorem tracks_of_sending (hb : s.ser.busy = true) (hlast : lastFrame s.history = some s.ser.frame)
    (hshift : s.chip.sr.toNat % 2 ^ clocked s.ser = s.ser.frame.toNat / 2 ^ (20 - clocked s.ser))
    (hdata : s.ser.phase ≠ .data → s.lines.data = .ofBool (s.ser.frame.getLsbD s.ser.idx.toNat)) : Tracks s :=
  ⟨fun _ => hlast, fun _ => hshift, fun _ => hdata, fun hb' => absurd (hb.symm.trans hb') (by decide)⟩

theorem tracks_of_sent {f : FrameWord} (hb : s.ser.busy = false) (hlast : lastFrame s.history = some f)
    (hsr : s.chip.sr = f) (hout : s.chip.out = f) (hdata : s.lines.data = .ofBool (f.getLsbD 0)) : Tracks s := by
  constructor <;> simp [hb, hlast, hsr, hout, hdata]

section PinEvent

variable (h : Tracks s) (hi : Invariants s) (hb : s.ser.busy = true)
include h hb

theorem Tracks.lastFrame_pinEvent : lastFrame s.pinEvent.history = some s.ser.frame := by
  obtain ⟨p, b, hes⟩ := pinEvent_history s
  rw [hes, lastFrame_append_of_no_frame _ rfl, h.sending hb]

theorem Tracks.pinEvent_data (hp : s.ser.phase = .data) : Tracks s.pinEvent := by
  have hlast := h.lastFrame_pinEvent hb
  have hshift := h.shifted hb
  simp only [clocked, hp] at hshift
  rw [pinEvent_of_data hp] at hlast ⊢
  exact tracks_of_sending hb hlast hshift fun _ => rfl

theorem Tracks.pinEvent_latchLo (hp : s.ser.phase = .latchLo) : Tracks s.pinEvent := by
  have hlast := h.lastFrame_pinEvent hb
  have hshift := h.shifted hb
  have hdata := h.settled hb (by simp [hp])
  simp only [clocked, hp] at hshift
  rw [pinEvent_of_latchLo hp] at hlast ⊢
  exact tracks_of_sending hb hlast hshift fun _ => hdata

/-- The falling edge after bit `idx` leaves SR alone; the next bit is `idx - 1`, or none. -/
theorem Tracks.pinEvent_clkLo (hp : s.ser.phase = .clkLo) : Tracks s.pinEvent := by
  have hlast := h.lastFrame_pinEvent hb
  have hshift := h.shifted hb
  have hdata := h.settled hb (by simp [hp])
  simp only [clocked, hp] at hshift
  by_cases h0 : s.ser.idx = 0
  · have hk : 20 - s.ser.idx.toNat = 20 := by simp [h0]
    rw [hk] at hshift
    rw [pinEvent_of_clkLo_last hp h0] at hlast ⊢
    exact tracks_of_sending hb hlast hshift fun _ => hdata
  · have hpos : s.ser.idx.toNat ≠ 0 := fun hz => h0 (BitVec.eq_of_toNat_eq hz)
    have hk : 20 - s.ser.idx.toNat = 19 - (s.ser.idx - 1).toNat := by rw [sub_one_toNat h0]; omega
    rw [hk] at hshift
    rw [pinEvent_of_clkLo_more hp h0] at hlast ⊢
    exact tracks_of_sending hb hlast hshift fun hp' => absurd rfl hp'

include hi

/-- The rising edge shifts bit `idx` in, which DATA has been holding since the event before. -/
theorem Tracks.pinEvent_clkHi (hp : s.ser.phase = .clkHi) : Tracks s.pinEvent := by
  have hclk : s.lines.clk = .low := by simpa [hp] using hi.busy_clk hb
  have hidx := hi.busy_index hb
  have hlast := h.lastFrame_pinEvent hb
  have hshift := h.shifted hb
  have hdata := h.settled hb (by simp [hp])
  simp only [clocked, hp, show 20 - (19 - s.ser.idx.toNat) = s.ser.idx.toNat + 1 by omega] at hshift
  rw [pinEvent_of_clkHi hp] at hlast ⊢
  refine tracks_of_sending hb hlast ?_ fun _ => hdata
  simp only [clocked, State.emit_chip, observe_clk s.chip hclk hdata, Nat.sub_sub_self (Nat.le_succ_of_le hidx)]
  exact shiftIn_appends_bit hidx hshift

/-- All 20 bits are in SR by the end of the latch pulse, so that OUT takes the whole frame. -/
theorem Tracks.pinEvent_latchHi (hp : s.ser.phase = .latchHi) : Tracks s.pinEvent := by
  have hlatch : s.lines.latchN = .low := by simpa [hp] using hi.busy_latchN hb
  have h0 : s.ser.idx = 0 := hi.busy_latch hb (.inr hp)
  have hlast := h.lastFrame_pinEvent hb
  have hshift := h.shifted hb
  have hdata := h.settled hb (by simp [hp])
  have hsr : s.chip.sr = s.ser.frame := BitVec.eq_of_toNat_eq (by
    simpa [clocked, hp, Nat.mod_eq_of_lt s.chip.sr.isLt] using hshift)
  rw [h0] at hdata
  rw [pinEvent_of_latchHi hp] at hlast ⊢
  refine tracks_of_sent rfl hlast ?_ ?_ hdata <;>
    simp only [State.emit_chip, observe_latchN s.chip hlatch, hsr]

theorem Tracks.pinEvent : Tracks s.pinEvent := by
  cases hp : s.ser.phase
  case data => exact h.pinEvent_data hb hp
  case clkHi => exact h.pinEvent_clkHi hi hb hp
  case clkLo => exact h.pinEvent_clkLo hb hp
  case latchLo => exact h.pinEvent_latchLo hb hp
  case latchHi => exact h.pinEvent_latchHi hi hb hp

end PinEvent

/-! ### Every step -/

theorem Tracks.hostEffect {i : Instr} (h : Tracks s) (hi : Invariants s) (e : HostEffect s i t) : Tracks t := by
  cases e with
  | refused _ r => exact h.refuse r
  | init hu => exact h.init hi hu
  | setDisplay d => exact (h.publish d none).accept _
  | updatePolled d p => exact (h.publish d (some p)).accept _
  | updateTimer d p =>
    have harm : Tracks (s.publish d (some p)).arm := (h.publish d (some p)).of_eq rfl rfl rfl rfl
    exact harm.accept _
  | clear => exact (h.publish _ _).accept _
  | logOff =>
    have hreq : Tracks (s.publish s.cfg.dispReset (some s.cfg.perReset)).requestLogoff :=
      (h.publish s.cfg.dispReset (some s.cfg.perReset)).of_eq rfl rfl rfl rfl
    exact hreq.accept _
  | power on => exact (h.setBlanking _).accept _
  | held => exact h
  | early => exact h.accept _
  | frame g => exact (tracks_ticked s _ g).accept _

theorem Tracks.stepEffect (h : Tracks s) (hi : Invariants s) (e : StepEffect s t) : Tracks t := by
  have hturn : Tracks s.beginTurn := h.of_eq rfl rfl rfl rfl
  have hport (ps : List CommandWord) : Tracks { s.beginTurn with port := ps } := hturn.of_eq rfl rfl rfl rfl
  cases e with
  | reserved r ps => exact (hport ps).refuse r
  | held ps => exact hport ps
  | host i op ps _ _ e => exact (hport ps).hostEffect (hi.beginTurn.withPort ps) e
  | passed => exact hturn
  | fired => exact hturn.of_eq rfl rfl rfl rfl
  | tornDown => exact hturn.of_eq rfl rfl rfl rfl
  | frame g => exact tracks_ticked _ _ g
  | pin hb => exact hturn.pinEvent hi.beginTurn hb

/-- Settles O48: only INIT, an accepted frame and a pin event touch what `Tracks` reads, and each keeps it. -/
theorem stepKeepsTheChipTrackingTheFrames : Obligations.StepKeepsTheChipTrackingTheFrames :=
  fun _ _ hi h hstep => h.stepEffect hi (step_effect hstep).2

end Sys2Proof.Safety
end

section
/-! SUPPORT. What one turn runs (10_state.md R10, R19, 20_memory.md R38), and that the step alone, not an operation,
stops for a broken invariant (10_state.md R28, 60_exceptions.md R126; log 17). -/

namespace Sys2Proof.Machine

variable {s : State}

/-! ### The turn and the word -/

theorem step_of_unbroken (h : s.brokenRule = none) : step s = agentTurn s.nextTurn.agent s.beginTurn := by
  simp only [step, State.takeTurn, h]

theorem step_of_broken {k : StateRule} (h : s.brokenRule = some k) : step s = .fault (.brokenInvariant k) := by
  simp only [step, State.takeTurn, h]

theorem nextTurn_of_cons {u : Turn} {us : List Turn} (h : s.schedule = u :: us) : s.nextTurn = u := by
  simp only [State.nextTurn, h]

theorem beginTurn_of_cons {u : Turn} {us : List Turn} (h : s.schedule = u :: us) :
    s.beginTurn = { s with schedule := us, now := u.now, draws := s.draws + 1 } := by
  simp only [State.beginTurn, nextTurn_of_cons h, h, List.tail_cons]

/-- A scheduled turn is its agent's, with the turn taken (log 4, log 5). -/
theorem step_of_scheduled {a : Agent} {n : Word32} {us : List Turn} (hk : s.brokenRule = none)
    (h : s.schedule = ⟨a, n⟩ :: us) :
    step s = agentTurn a { s with schedule := us, now := n, draws := s.draws + 1 } := by
  rw [step_of_unbroken hk, nextTurn_of_cons h, beginTurn_of_cons h]

/-- Only a TICK is ever held (46_host_commands.md R117 item 4, R118). -/
theorem holdsCommand_iff {i : Instr} :
    s.holdsCommand i = true ↔
      i = .tick ∧ s.ds ≠ .uninit ∧ s.cfg.driveMode = .polled ∧ s.ser.busy = true := by
  cases i <;> simp [State.holdsCommand, and_assoc]

theorem portWord_of_cons {w : CommandWord} {ws : List CommandWord} (h : s.port = w :: ws) : s.portWord = w := by
  simp only [State.portWord, h]

theorem hostTurn_of_decoded {w : CommandWord} {i : Instr} (hi : decode w = .ok i) (hh : s.holdsCommand i = false) :
    hostTurn w s = exec i { s with port := s.port.tail } := by
  simp [hostTurn, hi, hh]

/-- Settles O12: the command is not held, and its word is the port's first. -/
theorem stepRunsTheDecodedCommand : Obligations.StepRunsTheDecodedCommand := by
  intro s n ts w ws i hk hs hp hi hheld
  have hrun : ({ s with schedule := ts, now := n, draws := s.draws + 1 } : State).holdsCommand i = false :=
    Bool.eq_false_iff.mpr (mt holdsCommand_iff.mp hheld)
  rw [step_of_scheduled hk hs, agentTurn, portWord_of_cons (by exact hp), hostTurn_of_decoded hi hrun]
  simp only [hp, List.tail_cons]

/-- Settles O13: a scheduled turn of each of the other agents is its operation. -/
theorem stepRunsTheAgentOfItsTurn : Obligations.StepRunsTheAgentOfItsTurn :=
  fun _ _ _ hk => ⟨step_of_scheduled hk, step_of_scheduled hk, step_of_scheduled hk⟩

/-- No rule of R28 reads the schedule or the port. -/
theorem brokenRule_withQueues (s : State) (ts : List Turn) (ps : List CommandWord) :
    ({ s with schedule := ts, port := ps } : State).brokenRule = s.brokenRule := by
  have hrule : StateRule.holds { s with schedule := ts, port := ps } = StateRule.holds s := by
    funext k
    cases k <;> rfl
  simp only [State.brokenRule, hrule]

/-- A HOST turn reads of the port only what stands behind its word. -/
theorem hostTurn_congr_port {ps qs : List CommandWord} (w : CommandWord) (h : ps.tail = qs.tail) :
    hostTurn w { s with port := ps } = hostTurn w { s with port := qs } := by
  simp only [hostTurn, h]
  rfl

theorem step_eq_of_free_turn (h : s.schedule = []) :
    step s = step { s with schedule := [Config.freeTurn s.draws] } := by
  have hk := brokenRule_withQueues s [Config.freeTurn s.draws] s.port
  cases hb : s.brokenRule with
  | some k => rw [step_of_broken hb, step_of_broken (hk.trans hb)]
  | none =>
    rw [step_of_unbroken hb, step_of_unbroken (hk.trans hb)]
    simp only [State.nextTurn, State.beginTurn, h, List.tail_cons, List.tail_nil]

theorem step_eq_of_free_word {n : Word32} {ts : List Turn} (hp : s.port = []) (hs : s.schedule = ⟨.host, n⟩ :: ts) :
    step s = step { s with port := [Config.freeWord (s.draws + 1)] } := by
  have hk := brokenRule_withQueues s s.schedule [Config.freeWord (s.draws + 1)]
  cases hb : s.brokenRule with
  | some k => rw [step_of_broken hb, step_of_broken (hk.trans hb)]
  | none =>
    rw [step_of_scheduled hb hs, step_of_scheduled (hk.trans hb) hs]
    simp only [agentTurn, State.portWord, hp]
    exact hostTurn_congr_port (s := { s with schedule := ts, now := n, draws := s.draws + 1 }) _ rfl

/-- Settles O14: an absent turn or word and its free stand-in give the same step. -/
theorem freeTurnsAndWordsStandInForAbsentOnes : Obligations.FreeTurnsAndWordsStandInForAbsentOnes :=
  fun _ => ⟨step_eq_of_free_turn, fun hp _ _ hs => step_eq_of_free_word hp hs⟩

/-! ### Which faults an operation raises -/

theorem tickBody_error {n : Word32} {f : Fault} (h : s.tickBody n = .error f) :
    f = .gatePointer ∨ f = .serStartBusy := by
  unfold State.tickBody at h
  split at h
  · next hg =>
    cases h
    exact .inl (nextGate_error.mp hg).2.symm
  · simp only at h
    split at h
    · next hs =>
      cases h
      exact .inr (serStart_error.mp hs).2.symm
    · cases h

theorem serStep_error {f : Fault} (h : s.serStep = .error f) : f = .serIndex := by
  unfold State.serStep at h
  split at h <;> cases h
  rfl

theorem finish_fault {r : Except Fault State} {f : Fault} : finish r = .fault f ↔ r = .error f := by
  cases r <;> simp [finish]

theorem whenInitialized_fault {k : State → Host.Outcome State Fault Refusal} {f : Fault} :
    whenInitialized s k = .fault f ↔ s.ds ≠ .uninit ∧ k s = .fault f := by
  unfold whenInitialized
  by_cases h : s.ds = .uninit <;> simp [h]

theorem execTick_fault {f : Fault} (h : execTick s = .fault f) : f = .gatePointer ∨ f = .serStartBusy := by
  obtain ⟨-, h⟩ := whenInitialized_fault.mp h
  split at h
  · cases h
  split at h
  · cases h
  split at h
  · cases h
  split at h
  · next he =>
    cases h
    exact tickBody_error he
  · cases h

/-- The host commands besides TICK answer a next state in each branch. -/
theorem exec_host_fault {i : Instr} {op : HostOp} {f : Fault} (hop : i.hostOp = some op) (h : exec i s = .fault f) :
    f = .gatePointer ∨ f = .serStartBusy := by
  cases i <;> simp only [Instr.hostOp, reduceCtorEq] at hop <;> simp only [exec] at h
  case init =>
    unfold execInit at h
    split at h <;> cases h
  case setDisplay => cases (whenInitialized_fault.mp h).2
  case update => cases (whenInitialized_fault.mp h).2
  case clear => cases (whenInitialized_fault.mp h).2
  case logOff =>
    obtain ⟨-, h⟩ := whenInitialized_fault.mp h
    split at h <;> cases h
  case power => cases (whenInitialized_fault.mp h).2
  case tick => exact execTick_fault h

theorem execTimerService_fault {f : Fault} (h : execTimerService s = .fault f) :
    f = .gatePointer ∨ f = .serStartBusy := by
  unfold execTimerService at h
  split at h
  · split at h
    · cases h
    · exact tickBody_error (finish_fault.mp h)
  · cases h

theorem execSerStep_fault {f : Fault} (h : execSerStep s = .fault f) : f = .serIndex := by
  unfold execSerStep at h
  split at h
  · exact serStep_error (finish_fault.mp h)
  · cases h

/-- An agent's operation never raises the fault of R28: its causes are R12's, R70's and R17's. -/
theorem agentTurn_fault {a : Agent} {f : Fault} (h : agentTurn a s = .fault f) :
    f = .gatePointer ∨ f = .serStartBusy ∨ f = .serIndex := by
  cases a <;> simp only [agentTurn] at h
  case host =>
    unfold hostTurn at h
    split at h
    · cases h
    next i hi =>
    split at h
    · cases h
    obtain ⟨op, -, -, -, hop⟩ := decode_hostOp hi
    exact (exec_host_fault hop h).imp_right .inl
  case timer =>
    simp only [exec, execTimerFire] at h
    split at h <;> cases h
  case refresh => exact (execTimerService_fault h).imp_right .inl
  case serializer => exact .inr (.inr (execSerStep_fault h))

theorem step_brokenInvariant_iff : (∃ k, step s = .fault (.brokenInvariant k)) ↔ s.brokenRule ≠ none := by
  cases hb : s.brokenRule with
  | some k => exact iff_of_true ⟨k, step_of_broken hb⟩ (by simp)
  | none =>
    refine iff_of_false ?_ (by simp)
    rintro ⟨k, hk⟩
    rw [step_of_unbroken hb] at hk
    obtain h | h | h := agentTurn_fault hk <;> cases h

theorem exists_broken_iff : s.brokenRule ≠ none ↔ ∃ k, StateRule.holds s k = false := by
  simp [brokenRule_none]

theorem exists_stateRule {p : StateRule → Prop} :
    (∃ k, p k) ↔
      p .gateRange ∨ p .uninitLines ∨ p .idleLines ∨ p .timerFlags ∨ p .pendingArmed ∨ p .busyRunning ∨
      p .stoppedFlags ∨ p .lastMsWritten ∨ p .serWritten := by
  constructor
  · rintro ⟨k, hk⟩
    cases k <;> simp [hk]
  · rintro (h | h | h | h | h | h | h | h | h) <;> exact ⟨_, h⟩

/-- Settles O17: the step checks each line of R28 and the two first-write conditions, and no operation raises the
fault. -/
theorem stepFaultsExactlyOnBrokenInvariants : Obligations.StepFaultsExactlyOnBrokenInvariants := by
  intro s
  rw [step_brokenInvariant_iff, exists_broken_iff, exists_stateRule]
  rw [show (⟨.z, .z, .z, .z⟩ : Lines) = Lines.undriven from rfl]
  simp only [StateRule.holds, decide_eq_false_iff_not, Classical.not_imp, not_and_or, and_assoc,
    Decidable.not_not, Bool.not_eq_true, Bool.not_eq_false, ne_eq]

end Sys2Proof.Machine
end

section
/-! SUPPORT. What every step keeps of the configuration, the history and the refusal mark (10_state.md R20, R26,
60_exceptions.md R125). -/

namespace Sys2Proof.Machine

/-- From `s` to `t` the events `es` are recorded, the configuration stays, and the mark is set where a refusal is among
them. -/
structure Records (s t : State) (es : List Event) : Prop where
  cfg : t.cfg = s.cfg
  history : t.history = s.history ++ es
  mark : t.refusal = true ↔ s.refusal = true ∨ ∃ r, Event.refused r ∈ es

variable {s t : State} {es : List Event}

theorem Records.of_no_refusal (hcfg : t.cfg = s.cfg) (hhist : t.history = s.history ++ es)
    (hmark : t.refusal = s.refusal) (hes : ∀ r, Event.refused r ∉ es) : Records s t es :=
  ⟨hcfg, hhist, by simp [hmark, hes]⟩

theorem Records.of_same_history (hcfg : t.cfg = s.cfg) (hhist : t.history = s.history) (hmark : t.refusal = s.refusal) :
    Records s t [] :=
  .of_no_refusal hcfg (by rw [hhist, List.append_nil]) hmark (by simp)

theorem records_refuse (s : State) (r : Reason) : Records s (s.refuse r) [.refused r] :=
  ⟨rfl, rfl, by simp⟩

theorem HostEffect.records {i : Instr} (e : HostEffect s i t) : ∃ es, Records s t es := by
  cases e with
  | refused _ r => exact ⟨_, records_refuse s r⟩
  | init =>
    exact ⟨[.emit .data false, .emit .clk false, .emit .latchN true, .emit .blankN true, .cmd .init],
      .of_no_refusal (by simp) (by simp) (by simp) (by simp)⟩
  | setDisplay => exact ⟨[.cmd .setDisplay], .of_no_refusal rfl rfl rfl (by simp)⟩
  | updatePolled => exact ⟨[.cmd .update], .of_no_refusal rfl rfl rfl (by simp)⟩
  | updateTimer => exact ⟨[.cmd .update], .of_no_refusal rfl rfl rfl (by simp)⟩
  | clear => exact ⟨[.cmd .clear], .of_no_refusal rfl rfl rfl (by simp)⟩
  | logOff => exact ⟨[.cmd .logOff], .of_no_refusal rfl rfl rfl (by simp)⟩
  | power on => exact ⟨[.emit .blankN (!!on), .cmd .power], .of_no_refusal rfl (by simp) rfl (by simp)⟩
  | held => exact ⟨[], .of_same_history rfl rfl rfl⟩
  | early => exact ⟨[.cmd .tick], .of_no_refusal rfl rfl rfl (by simp)⟩
  | frame g =>
    exact ⟨[.frame (s.ticked s.now g).ser.frame, .cmd .tick],
      .of_no_refusal rfl (by simp [State.ticked, Ser.started]) rfl (by simp)⟩

theorem pinEvent_records (s : State) : ∃ es, Records s s.pinEvent es := by
  obtain ⟨p, b, hes⟩ := pinEvent_history s
  have hframe := pinEvent_frame s
  exact ⟨[.emit p b], .of_no_refusal (by rw [hframe]) hes (by rw [hframe]) (by simp)⟩

/-- Taking the turn and the word records nothing. -/
theorem Records.of_turn {ps : List CommandWord} (h : Records { s.beginTurn with port := ps } t es) : Records s t es :=
  ⟨h.cfg, h.history, h.mark⟩

theorem StepEffect.records (e : StepEffect s t) : ∃ es, Records s t es := by
  cases e with
  | reserved r ps => exact ⟨_, (records_refuse { s.beginTurn with port := ps } r).of_turn⟩
  | held => exact ⟨[], .of_same_history rfl rfl rfl⟩
  | host i op ps _ _ e => exact e.records.imp fun _ h => h.of_turn
  | passed => exact ⟨[], .of_same_history rfl rfl rfl⟩
  | fired => exact ⟨[], .of_same_history rfl rfl rfl⟩
  | tornDown => exact ⟨[], .of_same_history rfl rfl rfl⟩
  | frame g => exact ⟨[.frame _], .of_no_refusal rfl rfl rfl (by simp)⟩
  | pin => exact (pinEvent_records s.beginTurn).imp fun _ h => Records.of_turn (ps := s.port) h

/-- Settles O55: each effect of a step records its own events, and a refusal is the one that sets the mark. -/
theorem stepKeepsConfigurationHistoryAndMark : Obligations.StepKeepsConfigurationHistoryAndMark := by
  intro s t h
  obtain ⟨es, hcfg, hhist, hmark⟩ := (step_effect h).2.records
  exact ⟨hcfg, es, hhist, hmark⟩

end Sys2Proof.Machine
end

section
/-! SUPPORT. Which operations drive the output lines (10_state.md R18). -/

namespace Sys2Proof.Machine

variable {s t : State} {i : Instr}

/-- Of the host commands INIT and POWER alone drive a line. -/
theorem HostEffect.lines (e : HostEffect s i t) (hinit : i ≠ .init) (hpower : ∀ on, i ≠ .power on) :
    t.lines = s.lines := by
  cases e with
  | init => exact absurd rfl hinit
  | power on => exact absurd rfl (hpower on)
  | _ => rfl

theorem tickBody_lines {n : Word32} (h : s.tickBody n = .ok t) : t.lines = s.lines := by
  obtain ⟨-, g, -, rfl⟩ := tickBody_ok.mp h
  rfl

theorem execTimerFire_lines (h : execTimerFire s = .next t) : t.lines = s.lines := by
  unfold execTimerFire at h
  split at h <;> cases h <;> rfl

theorem execTimerService_lines (h : execTimerService s = .next t) : t.lines = s.lines := by
  unfold execTimerService at h
  split at h
  · split at h
    · cases h
      rfl
    · exact (tickBody_lines (finish_next.mp h)).trans s.fireServiced_lines
  · cases h
    rfl

theorem execCompose_lines {g : GateBits} {dlo dhi : Byte} {v : Bool} (h : execCompose g dlo dhi v s = .next t) :
    t.lines = s.lines := by
  unfold execCompose at h
  split at h <;> cases h
  rfl

theorem execNextGate_lines (h : execNextGate s = .next t) : t.lines = s.lines := by
  unfold execNextGate at h
  split at h
  · cases h
  · next hg =>
    cases h
    rw [(nextGate_ok.mp hg).2]
    rfl

/-- Only INIT, POWER, SET_BLANKING and SER_STEP drive lines (R18). -/
theorem exec_lines (hinit : i ≠ .init) (hpower : ∀ on, i ≠ .power on) (hblank : ∀ e, i ≠ .setBlanking e)
    (hstep : i ≠ .serStep) (h : exec i s = .next t) : t.lines = s.lines := by
  cases hop : i.hostOp with
  | some op => exact (exec_hostEffect hop h).lines hinit hpower
  | none =>
    cases i <;> simp only [Instr.hostOp, reduceCtorEq] at hop
    case timerFire => exact execTimerFire_lines h
    case timerService => exact execTimerService_lines h
    case serStep => exact absurd rfl hstep
    case serStart f =>
      obtain ⟨-, rfl⟩ := serStart_ok.mp (finish_next.mp h)
      rfl
    case setBlanking e => exact absurd rfl (hblank e)
    case lookup => cases h; rfl
    case compose => exact execCompose_lines h
    case nextGate => exact execNextGate_lines h
    case blinkStep => cases h; rfl
    case blinkReset => cases h; rfl
    case tickBody => exact tickBody_lines (finish_next.mp h)
    case publish => cases h; rfl

theorem drive_other_blankN {p : Pin} (hp : p ≠ .blankN) (l : Lines) (b : Bool) : (l.drive p b).blankN = l.blankN := by
  cases p
  case blankN => exact absurd rfl hp
  all_goals rfl

/-- SER_STEP drives DATA, CLK and LATCH_N only (40_serializer.md R71). -/
theorem exec_serStep_blankN (h : exec .serStep s = .next t) : t.lines.blankN = s.lines.blankN := by
  simp only [exec, execSerStep] at h
  split at h
  · obtain ⟨-, rfl⟩ := serStep_ok.mp (finish_next.mp h)
    obtain ⟨p, b, hp, hl⟩ := pinEvent_lines s
    rw [hl, drive_other_blankN hp]
  · cases h
    rfl

/-- Settles O59: SER_STEP is the only other operation that drives a line, and it drives three. -/
theorem onlyInitAndPowerWriteBlankN : Obligations.OnlyInitAndPowerWriteBlankN := by
  intro i s t hinit hpower hblank h
  by_cases hi : i = .serStep
  · subst hi
    exact exec_serStep_blankN h
  · rw [exec_lines hinit hpower hblank hi h]

end Sys2Proof.Machine
end

section
/-! SUPPORT. What the checks of the table and of the permutation give at an instantiation and between the variants
(20_memory.md R31, R32). -/

namespace Sys2Proof

theorem Config.tableOk_of_wellFormed {c : Config} (h : c.wellFormed = true) (v : Variant) : c.tableOk v = true := by
  simp only [Config.wellFormed, Config.segOk, Bool.and_eq_true] at h
  obtain ⟨⟨⟨v1, v2⟩, -⟩, -⟩ := h
  cases v with
  | v1 => exact v1
  | v2 => exact v2

/-- R31 of a well formed configuration's ROM, whichever variant's table it holds. -/
theorem Config.romRead_of_wellFormed {c : Config} (h : c.wellFormed = true) (slot : Fin 6) :
    c.romRead slot 16 = 0#8 ∧ ∀ code, (c.romRead slot code).getLsbD 7 = false :=
  Config.tableOk_iff.mp (Config.tableOk_of_wellFormed h c.variant) slot

theorem instantiate_of_wellFormed {c : Config} (h : c.wellFormed = true) :
    Machine.instantiate c = .next (Machine.State.resetWith c) := if_pos h

theorem instantiate_of_not_wellFormed {c : Config} (h : ¬ c.wellFormed = true) :
    Machine.instantiate c = .refused .badConfig := if_neg h

/-- Settles O3: a table that breaks either condition is not a well formed configuration's. -/
theorem badTableIsRefusedAtInstantiation : Obligations.BadTableIsRefusedAtInstantiation := by
  refine fun c => ⟨?_, ?_, instantiate_of_wellFormed⟩
  · rintro ⟨slot, notBlank⟩
    exact instantiate_of_not_wellFormed fun h => notBlank (Config.romRead_of_wellFormed h slot).1
  · rintro ⟨slot, code, bit7⟩
    refine instantiate_of_not_wellFormed fun h => ?_
    rw [(Config.romRead_of_wellFormed h slot).2 code] at bit7
    cases bit7

/-- An injective `perm` sends no other bit of the pattern to where bit `b` goes (R32). -/
theorem permuteByte_getLsbD_perm {perm : Vector (Fin 8) 8} (inj : Function.Injective fun b : Fin 8 => perm[b])
    (p : Byte) (b : Fin 8) : (permuteByte perm p).getLsbD perm[b].val = p.getLsbD b := by
  rw [Bool.eq_iff_iff, permuteByte_getLsbD]
  constructor
  · rintro ⟨a, ha, same⟩
    have hab : a = b := inj (Fin.ext same)
    rwa [hab] at ha
  · intro hb
    exact ⟨b, hb, rfl⟩

/-- Settles O4: the check gives an injective permutation that fixes 7, and V2 is the permuted V1. -/
theorem variantTablesDifferByTheBitPermutation : Obligations.VariantTablesDifferByTheBitPermutation := by
  intro c h
  obtain ⟨inj, fixes⟩ := Config.permOk_iff.mp h
  exact ⟨fixes, fun slot code => permuteByte_getLsbD_perm inj (c.segOf .v1 slot code)⟩

end Sys2Proof
end

section
/-! SUPPORT. Which frames a run records: the gates in their cycle (43_gate_sequencer.md R91), each with the snapshot's
digits (20_memory.md R38, R42). -/

namespace Sys2Proof.Machine

theorem bits_injective : Function.Injective GateId.bits := fun j k h => by
  have hj := ofBits_eq_some.mpr h
  rw [ofBits_bits] at hj
  exact Option.some.inj hj

theorem State.initLines_gate (s : State) : s.initLines.gate = s.gate := by rw [initLines_frame]
theorem State.initLines_snap (s : State) : s.initLines.snap = s.snap := by rw [initLines_frame]

end Sys2Proof.Machine

namespace Sys2Proof.Safety

open Sys2Proof Sys2Proof.Machine

variable {s t u : State} {g : GateId} {es fs : List Event}

theorem gateAfter_add (g : GateId) (j k : Nat) : gateAfter g (j + k) = gateAfter (gateAfter g j) k := by
  induction j generalizing g with
  | zero => rw [Nat.zero_add]; rfl
  | succ j ih => rw [Nat.succ_add]; exact ih g.succ

theorem published_append : published (es ++ fs) ↔ published es ∨ published fs := by
  simp only [published, List.mem_append]
  tauto

/-- From `s`, whose gate is `g`, to `t` the events `es` are recorded; G moves one gate on with each frame among them,
and without a publish among them the digits stay and the frames show them, gate by gate. -/
structure Displays (s t : State) (g : GateId) (es : List Event) : Prop where
  cfg : t.cfg = s.cfg
  history : t.history = s.history ++ es
  gate : t.gate = (gateAfter g (framesOf es).length).bits
  disp : ¬ published es → t.snap.disp = s.snap.disp
  frames : ¬ published es → ∀ (k : Nat) (f : FrameWord), (framesOf es)[k]? = some f →
    ∃ v, f = composeSnapshot s.cfg (gateAfter g k) s.snap.disp v

/-- The `k`-th frame of the second stretch is the `k`-th after all frames of the first. -/
theorem Displays.trans (h : Displays s t g es) (h' : Displays t u (gateAfter g (framesOf es).length) fs) :
    Displays s u g (es ++ fs) where
  cfg := h'.cfg.trans h.cfg
  history := by rw [h'.history, h.history, List.append_assoc]
  gate := by rw [h'.gate, framesOf_append, List.length_append, gateAfter_add]
  disp hp := by
    obtain ⟨hes, hfs⟩ := not_or.mp (mt published_append.mpr hp)
    rw [h'.disp hfs, h.disp hes]
  frames hp k f hf := by
    obtain ⟨hes, hfs⟩ := not_or.mp (mt published_append.mpr hp)
    rw [framesOf_append] at hf
    by_cases hk : k < (framesOf es).length
    · rw [List.getElem?_append_left hk] at hf
      exact h.frames hes k f hf
    · have hk := Nat.not_lt.mp hk
      rw [List.getElem?_append_right hk] at hf
      obtain ⟨v, hv⟩ := h'.frames hfs _ f hf
      rw [h.cfg, h.disp hes, ← gateAfter_add, Nat.add_sub_cancel' hk] at hv
      exact ⟨v, hv⟩

/-- A step without a frame keeps G, and the digits unless it publishes. -/
theorem Displays.of_no_frame (hg : s.gate = g.bits) (hcfg : t.cfg = s.cfg) (hhist : t.history = s.history ++ es)
    (hgate : t.gate = s.gate) (hes : framesOf es = []) (hdisp : published es ∨ t.snap = s.snap) :
    Displays s t g es where
  cfg := hcfg
  history := hhist
  gate := by rw [hgate, hg, hes]; rfl
  disp hp := by rw [hdisp.resolve_left hp]
  frames _ k f hf := by simp [hes] at hf

theorem Displays.of_same (hg : s.gate = g.bits) (hcfg : t.cfg = s.cfg) (hhist : t.history = s.history)
    (hgate : t.gate = s.gate) (hsnap : t.snap = s.snap) : Displays s t g [] :=
  .of_no_frame hg hcfg (by rw [hhist, List.append_nil]) hgate rfl (.inr hsnap)

/-- Taking the turn and the word shows nothing. -/
theorem displays_turn (hg : s.gate = g.bits) (ps : List CommandWord) :
    Displays s { s.beginTurn with port := ps } g [] :=
  .of_same hg rfl rfl rfl rfl

/-- TICK_BODY's one frame shows the snapshot at G (45_refresh_tick.md R100). -/
theorem displays_ticked (s : State) (n : Word32) (g : GateId) :
    Displays s (s.ticked n g) g [.frame (s.ticked n g).ser.frame] where
  cfg := rfl
  history := rfl
  gate := rfl
  disp _ := rfl
  frames _ k f hf := by
    cases k with
    | zero => cases hf; exact ⟨_, rfl⟩
    | succ k => cases hf

theorem displays_refuse (hg : s.gate = g.bits) (r : Reason) : Displays s (s.refuse r) g [.refused r] :=
  .of_no_frame hg rfl rfl rfl rfl (.inr rfl)

theorem displays_accept (hg : s.gate = g.bits) (op : HostOp) : Displays s (s.accept op) g [.cmd op] :=
  .of_no_frame hg rfl rfl rfl rfl (.inr rfl)

theorem displays_pinEvent (hg : s.gate = g.bits) : ∃ es, Displays s s.pinEvent g es := by
  obtain ⟨p, b, hes⟩ := pinEvent_history s
  have hframe := pinEvent_frame s
  exact ⟨[.emit p b], .of_no_frame hg (by rw [hframe]) hes (by rw [hframe]) rfl (.inr (by rw [hframe]))⟩

/-! ### Every step, every run -/

theorem displays_hostEffect {i : Instr} (hg : s.gate = g.bits) (e : HostEffect s i t) : ∃ es, Displays s t g es := by
  cases e with
  | refused _ r => exact ⟨_, displays_refuse hg r⟩
  | init =>
    exact ⟨[.emit .data false, .emit .clk false, .emit .latchN true, .emit .blankN true, .cmd .init],
      .of_no_frame hg (by simp) (by simp) s.initLines_gate rfl (.inr s.initLines_snap)⟩
  | setDisplay => exact ⟨[.cmd .setDisplay], .of_no_frame hg rfl rfl rfl rfl (.inl (by simp [published]))⟩
  | updatePolled => exact ⟨[.cmd .update], .of_no_frame hg rfl rfl rfl rfl (.inl (by simp [published]))⟩
  | updateTimer => exact ⟨[.cmd .update], .of_no_frame hg rfl rfl rfl rfl (.inl (by simp [published]))⟩
  | clear => exact ⟨[.cmd .clear], .of_no_frame hg rfl rfl rfl rfl (.inl (by simp [published]))⟩
  | logOff => exact ⟨[.cmd .logOff], .of_no_frame hg rfl rfl rfl rfl (.inl (by simp [published]))⟩
  | power on =>
    exact ⟨[.emit .blankN (!!on), .cmd .power], .of_no_frame hg rfl (by simp) rfl rfl (.inr rfl)⟩
  | held => exact ⟨[], .of_same hg rfl rfl rfl rfl⟩
  | early => exact ⟨_, displays_accept hg .tick⟩
  | frame k _ _ _ hk =>
    obtain rfl := bits_injective (hg.symm.trans hk)
    exact ⟨_, (displays_ticked s s.now g).trans (displays_accept rfl .tick)⟩

theorem displays_stepEffect (hg : s.gate = g.bits) (e : StepEffect s t) : ∃ es, Displays s t g es := by
  have turn (ps : List CommandWord) := displays_turn hg ps
  cases e with
  | reserved r ps => exact ⟨_, (turn ps).trans (displays_refuse (turn ps).gate r)⟩
  | held ps => exact ⟨[], turn ps⟩
  | host i op ps _ _ e =>
    obtain ⟨es, h⟩ := displays_hostEffect (turn ps).gate e
    exact ⟨es, (turn ps).trans h⟩
  | passed => exact ⟨[], .of_same hg rfl rfl rfl rfl⟩
  | fired => exact ⟨[], .of_same hg rfl rfl rfl rfl⟩
  | tornDown => exact ⟨[], .of_same hg rfl rfl rfl rfl⟩
  | frame k _ _ _ hk =>
    obtain rfl := bits_injective (hg.symm.trans hk)
    have serviced : Displays s s.beginTurn.fireServiced g [] := .of_same hg rfl rfl rfl rfl
    exact ⟨_, serviced.trans (displays_ticked _ s.nextTurn.now g)⟩
  | pin =>
    obtain ⟨es, h⟩ := displays_pinEvent (s := s.beginTurn) hg
    exact ⟨es, (turn s.port).trans h⟩

theorem run_succ_next {n : Nat} :
    Host.Core.run Sys2Proof.core (n + 1) s = .next t ↔
      ∃ u, step s = .next u ∧ Host.Core.run Sys2Proof.core n u = .next t := by
  have hcore : Sys2Proof.core.step = step := rfl
  simp only [Host.Core.run, hcore]
  cases step s <;> simp

theorem run_displays (n : Nat) (hg : s.gate = g.bits) (h : Host.Core.run Sys2Proof.core n s = .next t) :
    ∃ es, Displays s t g es := by
  induction n generalizing s g with
  | zero => cases h; exact ⟨[], .of_same hg rfl rfl rfl rfl⟩
  | succ n ih =>
    obtain ⟨u, hstep, hrun⟩ := run_succ_next.mp h
    obtain ⟨es, first⟩ := displays_stepEffect hg (step_effect hstep).2
    obtain ⟨fs, rest⟩ := ih first.gate hrun
    exact ⟨es ++ fs, first.trans rest⟩

/-- Settles O53: each step displays the snapshot at its gate, and the stretches of a run join. -/
theorem framesShowTheSnapshotGateByGate : Obligations.FramesShowTheSnapshotGateByGate := by
  intro n s t g _ hg hrun
  obtain ⟨es, h⟩ := run_displays n hg hrun
  exact ⟨es, h.history, h.frames⟩

end Sys2Proof.Safety
end

section
/-! SUPPORT. The command word and its fields (30_encoding.md R55 to R63): a word is its six kinds of field, what each
operation's mask leaves of them, and what the decoder and the encoder make of them. -/

namespace Sys2Proof

/-! ### The fields of a packed word -/

theorem digitField_packWord (op : HostOp) (on : Bool) (d : Digits) (p : Word32) (i : Fin 6) :
    digitField (packWord op on d p) i.val = d.get i := by
  unfold digitField packWord
  fin_cases i <;>
  · repeat rw [BitVec.extractLsb'_append_eq_of_le (by decide)]
    rw [BitVec.extractLsb'_append_eq_of_add_le (by decide)]
    exact BitVec.extractLsb'_eq_self

/-- The six digit fields, index by index. -/
theorem digitsField_eq {w : CommandWord} {d : Digits} (h : ∀ i : Fin 6, digitField w i = d.get i) :
    digitsField w = d := by
  rw [digitsField, Digits.mk.injEq]
  exact ⟨h 0, h 1, h 2, h 3, h 4, h 5⟩

theorem digitField_eq_get (w : CommandWord) (i : Fin 6) : digitField w i = (digitsField w).get i := by
  fin_cases i <;> rfl

theorem digitsField_packWord (op : HostOp) (on : Bool) (d : Digits) (p : Word32) :
    digitsField (packWord op on d p) = d :=
  digitsField_eq (digitField_packWord op on d p)

theorem periodField_packWord (op : HostOp) (on : Bool) (d : Digits) (p : Word32) :
    periodField (packWord op on d p) = p := by
  unfold periodField packWord
  repeat rw [BitVec.extractLsb'_append_eq_of_le (by decide)]
  exact BitVec.extractLsb'_eq_self

theorem ofBool_onField (w : CommandWord) : BitVec.ofBool (onField w) = w.extractLsb' 4 1 := by
  ext i hi
  simp [onField, Nat.lt_one_iff.mp hi]

theorem append_fields (w : CommandWord) :
    periodField w ++ digitField w 5 ++ digitField w 4 ++ digitField w 3 ++ digitField w 2 ++ digitField w 1 ++
      digitField w 0 ++ rsvField w ++ BitVec.ofBool (onField w) ++ opField w = w := by
  rw [ofBool_onField]
  unfold periodField digitField rsvField opField
  repeat rw [BitVec.extractLsb'_append_extractLsb'_eq_extractLsb' (by decide)]
  exact BitVec.extractLsb'_eq_self

/-- A word with RSV 0 is packed from its fields. -/
theorem packWord_fields {w : CommandWord} {op : HostOp} (hop : opField w = op.bits) (hrsv : rsvField w = 0) :
    packWord op (onField w) (digitsField w) (periodField w) = w := by
  have whole := append_fields w
  rw [hop, hrsv] at whole
  exact whole

theorem opField_toNat (w : CommandWord) : (opField w).toNat = w.toNat % 16 := by
  simp [opField]

theorem rsvField_toNat (w : CommandWord) : (rsvField w).toNat = w.toNat / 32 % 2048 := by
  simp [rsvField, Nat.shiftRight_eq_div_pow]

theorem onField_toNat (w : CommandWord) : (onField w).toNat = w.toNat / 16 % 2 := by
  rw [onField, BitVec.getLsbD, Nat.toNat_testBit]

theorem rsvField_ne_zero {w : CommandWord} : rsvField w ≠ 0 ↔ w.toNat / 32 % 2048 ≠ 0 := by
  rw [← rsvField_toNat, ne_eq, BitVec.toNat_eq]
  rfl

/-- The low 16 bits of a word are OP, ON and RSV (R55). -/
theorem toNat_mod_two_pow_16 (w : CommandWord) :
    w.toNat % 65536 = (opField w).toNat + 16 * (onField w).toNat + 32 * (rsvField w).toNat := by
  rw [opField_toNat, onField_toNat, rsvField_toNat]
  omega

/-! ### What the masks leave (R56) -/

theorem opField_and (w m : CommandWord) : opField (w &&& m) = opField w &&& opField m := BitVec.extractLsb'_and
theorem rsvField_and (w m : CommandWord) : rsvField (w &&& m) = rsvField w &&& rsvField m := BitVec.extractLsb'_and
theorem onField_and (w m : CommandWord) : onField (w &&& m) = (onField w && onField m) := BitVec.getLsbD_and
theorem periodField_and (w m : CommandWord) : periodField (w &&& m) = periodField w &&& periodField m :=
  BitVec.extractLsb'_and
theorem digitField_and (w m : CommandWord) (i : Nat) : digitField (w &&& m) i = digitField w i &&& digitField m i :=
  BitVec.extractLsb'_and

@[simp] theorem opField_readMask (w : CommandWord) (op : HostOp) : opField (w &&& op.readMask) = opField w := by
  have full : opField op.readMask = BitVec.allOnes 4 := by cases op <;> rfl
  rw [opField_and, full, BitVec.and_allOnes]

@[simp] theorem rsvField_readMask (w : CommandWord) (op : HostOp) : rsvField (w &&& op.readMask) = rsvField w := by
  have full : rsvField op.readMask = BitVec.allOnes 11 := by cases op <;> rfl
  rw [rsvField_and, full, BitVec.and_allOnes]

theorem onField_readMask (w : CommandWord) (op : HostOp) :
    onField (w &&& op.readMask) = (onField w && decide (op = .power)) := by
  have bit : onField op.readMask = decide (op = .power) := by cases op <;> rfl
  rw [onField_and, bit]

theorem periodField_readMask (w : CommandWord) (op : HostOp) :
    periodField (w &&& op.readMask) = if op = .update then periodField w else 0 := by
  have field : periodField op.readMask = if op = .update then BitVec.allOnes 32 else 0 := by cases op <;> rfl
  rw [periodField_and, field]
  split
  · exact BitVec.and_allOnes
  · exact BitVec.and_zero

theorem digitField_readMask (w : CommandWord) (op : HostOp) (i : Fin 6) :
    digitField (w &&& op.readMask) i = if op = .setDisplay ∨ op = .update then digitField w i else 0 := by
  have field : digitField op.readMask i = if op = .setDisplay ∨ op = .update then BitVec.allOnes 8 else 0 := by
    revert i
    cases op <;> decide
  rw [digitField_and, field]
  split
  · exact BitVec.and_allOnes
  · exact BitVec.and_zero

theorem digitsField_readMask (w : CommandWord) (op : HostOp) :
    digitsField (w &&& op.readMask) = if op = .setDisplay ∨ op = .update then digitsField w else Digits.zero := by
  refine digitsField_eq fun i => ?_
  rw [digitField_readMask]
  split
  · exact digitField_eq_get w i
  · fin_cases i <;> rfl

/-- An operation's operands are in the fields of its mask (R61). -/
theorem withOperands_readMask (w : CommandWord) (op : HostOp) :
    op.withOperands (w &&& op.readMask) = op.withOperands w := by
  cases op
  case setDisplay => simp [HostOp.withOperands, digitsField_readMask]
  case update => simp [HostOp.withOperands, digitsField_readMask, periodField_readMask]
  case power => simp [HostOp.withOperands, onField_readMask]
  all_goals rfl

/-! ### The decoder, by the fields of its word -/

theorem HostOp.ofBits_eq_none {b : BitVec 4} : HostOp.ofBits b = none ↔ b.toNat = 0 ∨ 8 ≤ b.toNat := by
  revert b
  decide

theorem decode_of_opField {w : CommandWord} {op : HostOp} (hop : opField w = op.bits) :
    decode w = if rsvField w = 0 then .ok (op.withOperands w) else .error .reservedBits := by
  rw [decode, hop, ofBits_op]

theorem decode_of_fields {w : CommandWord} {op : HostOp} (hop : opField w = op.bits) (hrsv : rsvField w = 0) :
    decode w = .ok (op.withOperands w) := by
  rw [decode_of_opField hop, if_pos hrsv]

/-- Which reason the decoder gives (R60; log 15). -/
theorem decode_eq_error {w : CommandWord} {r : Reason} :
    decode w = .error r ↔
      (r = .reservedOp ∧ (w.toNat % 16 = 0 ∨ 8 ≤ w.toNat % 16)) ∨
      (r = .reservedBits ∧ ¬ (w.toNat % 16 = 0 ∨ 8 ≤ w.toNat % 16) ∧ w.toNat / 32 % 2048 ≠ 0) := by
  rw [← opField_toNat, ← HostOp.ofBits_eq_none, ← rsvField_ne_zero]
  cases hop : HostOp.ofBits (opField w) with
  | none => simp [decode, hop, @eq_comm Reason r]
  | some op =>
    rw [decode_of_opField (ofBits_some hop)]
    by_cases hrsv : rsvField w = 0
    · simp [hrsv]
    · rw [if_neg hrsv]
      constructor
      · rintro ⟨⟩
        exact .inr ⟨rfl, by simp, hrsv⟩
      · rintro (⟨-, h⟩ | ⟨rfl, -⟩)
        · cases h
        · rfl

/-- Settles O7: the decoder's two reasons cover the three forms of a reserved word. -/
theorem decoderRefusesExactlyTheReservedWords : Obligations.DecoderRefusesExactlyTheReservedWords := by
  intro w
  simp only [decode_eq_error, exists_or, exists_eq_left]
  tauto

/-- Two words that agree where the operation reads decode alike (R61). -/
theorem decode_congr {w w' : CommandWord} (op : HostOp) (hop : opField w = op.bits)
    (h : w &&& op.readMask = w' &&& op.readMask) : decode w = decode w' := by
  have hop' : opField w' = op.bits := by rw [← opField_readMask w' op, ← h, opField_readMask, hop]
  rw [decode_of_opField hop, decode_of_opField hop', ← rsvField_readMask w op, ← withOperands_readMask w op, h,
    rsvField_readMask, withOperands_readMask]

theorem opField_eq_bits {w : CommandWord} {op : HostOp} (h : w.toNat % 16 = op.bits.toNat) : opField w = op.bits :=
  BitVec.eq_of_toNat_eq ((opField_toNat w).trans h)

/-- Settles O9: each mask is the `readMask` of the operations it is stated for. -/
theorem unreadOperandFieldsAreIgnored : Obligations.UnreadOperandFieldsAreIgnored := by
  intro w w'
  refine ⟨?_, fun h => decode_congr .power (opField_eq_bits h), fun h => decode_congr .setDisplay (opField_eq_bits h),
    fun h => decode_congr .update (opField_eq_bits h)⟩
  rintro (h | h | h | h)
  · exact decode_congr .init (opField_eq_bits h)
  · exact decode_congr .clear (opField_eq_bits h)
  · exact decode_congr .logOff (opField_eq_bits h)
  · exact decode_congr .tick (opField_eq_bits h)

/-- MASK = 0xFFEF leaves OP and RSV, so MATCH = OP selects the row (R56). -/
theorem decode_of_masked {w m : CommandWord} (op : HostOp) (hop : opField m = op.bits) (hrsv : rsvField m = 0)
    (h : w &&& 0xFFEF = m) : decode w = .ok (op.withOperands w) := by
  subst h
  refine decode_of_fields ?_ ?_
  · exact (opField_readMask w .init).symm.trans hop
  · exact (rsvField_readMask w .init).symm.trans hrsv

/-- Settles O8: row by row, by the mask; the reserved OP values are those of `decode_eq_error`. -/
theorem maskedMatchSelectsTheOperation : Obligations.MaskedMatchSelectsTheOperation := by
  rintro w d rfl
  refine ⟨decode_of_masked .init rfl rfl, decode_of_masked .setDisplay rfl rfl, decode_of_masked .update rfl rfl,
    decode_of_masked .clear rfl rfl, decode_of_masked .logOff rfl rfl, decode_of_masked .power rfl rfl,
    decode_of_masked .tick rfl rfl, fun h => ?_⟩
  exact ⟨.reservedOp, decode_eq_error.mpr (.inl ⟨rfl, h⟩)⟩

/-- Settles O10: each word is evaluated. -/
theorem exampleWordsDecodeToTheirCommands : Obligations.ExampleWordsDecodeToTheirCommands :=
  ⟨rfl, rfl, rfl, rfl, rfl, rfl, rfl, rfl, rfl, rfl, rfl, rfl, rfl⟩

/-! ### Encoding and decoding -/

theorem decode_packWord (op : HostOp) (on : Bool) (d : Digits) (p : Word32) :
    decode (packWord op on d p) = .ok (op.withOperands (packWord op on d p)) :=
  decode_of_fields (opField_packWord op on d p) (rsvField_packWord op on d p)

theorem encode_isSome (i : Instr) : (encode i).isSome = i.hostOp.isSome := by cases i <;> rfl

theorem decode_of_encode {i : Instr} {w : CommandWord} (h : encode i = some w) : decode w = .ok i := by
  cases i <;> simp only [encode, reduceCtorEq, Option.some.injEq] at h <;> subst h <;> rw [decode_packWord]
  case setDisplay d => rw [HostOp.withOperands, digitsField_packWord]
  case update d p => rw [HostOp.withOperands, digitsField_packWord, periodField_packWord]
  case power on => rw [HostOp.withOperands, onField_packWord]
  all_goals rfl

/-- Settles O5: the decoder reads back each field that the encoder packs. -/
theorem encodedCommandsDecodeToThemselves : Obligations.EncodedCommandsDecodeToThemselves :=
  fun i => ⟨encode_isSome i, fun _ => decode_of_encode⟩

/-- The word of a decoded command has 0 in the fields its operation does not read (R63), as the masked word has. -/
theorem encode_withOperands {w : CommandWord} {op : HostOp} (hop : opField w = op.bits) (hrsv : rsvField w = 0) :
    encode (op.withOperands w) = some (w &&& op.readMask) := by
  have packed := packWord_fields ((opField_readMask w op).trans hop) ((rsvField_readMask w op).trans hrsv)
  rw [← packed, onField_readMask, digitsField_readMask, periodField_readMask]
  cases op <;> simp [HostOp.withOperands, encode]

/-- Settles O6: a word that decodes has RSV 0, and its masked form is packed from the operands read. -/
theorem decodedWordsEncodeToTheirReadFields : Obligations.DecodedWordsEncodeToTheirReadFields := by
  intro w i h
  obtain ⟨op, hop, hrsv, rfl, hi⟩ := Machine.decode_hostOp h
  exact ⟨op, hi, encode_withOperands (ofBits_some hop) hrsv⟩

/-! ### Textual calls (R63) -/

theorem digitsOk_iff {ds : List Int} : digitsOk ds = true ↔ ds.length = 6 ∧ ∀ x ∈ ds, 0 ≤ x ∧ x ≤ 255 := by
  simp [digitsOk]

theorem periodOk_iff {p : Int} : periodOk p = true ↔ -2147483648 ≤ p ∧ p ≤ 2147483647 := by
  simp [periodOk]

section Numerals

variable {a b c d e f p : Int} (hd : ∀ x ∈ [a, b, c, d, e, f], 0 ≤ x ∧ x ≤ 255)
include hd

theorem assemble_setDisplay :
    Call.assemble (.setDisplay [a, b, c, d, e, f]) =
      some (packWord .setDisplay false (Call.toInstr.digitsOfInts a b c d e f) 0) := by
  have ok : digitsOk [a, b, c, d, e, f] = true := digitsOk_iff.mpr ⟨rfl, hd⟩
  simp [Call.assemble, Call.toInstr, Call.wellFormed, ok, encode]

theorem assemble_update (hp : -2147483648 ≤ p ∧ p ≤ 2147483647) :
    Call.assemble (.update [a, b, c, d, e, f] p) =
      some (packWord .update false (Call.toInstr.digitsOfInts a b c d e f) (BitVec.ofInt 32 p)) := by
  have ok : digitsOk [a, b, c, d, e, f] = true := digitsOk_iff.mpr ⟨rfl, hd⟩
  simp [Call.assemble, Call.toInstr, Call.wellFormed, ok, periodOk_iff.mpr hp, encode]

/-- A numeral in 0..255 is the value of its digit field. -/
theorem digitsOfInts_toNat (i : Fin 6) :
    (((Call.toInstr.digitsOfInts a b c d e f).get i).toNat : Int) = [a, b, c, d, e, f][i] := by
  have byte {x : Int} (hx : 0 ≤ x ∧ x ≤ 255) : ((BitVec.ofInt 8 x).toNat : Int) = x := by
    rw [BitVec.toNat_ofInt]
    omega
  have numeral := hd _ (List.getElem_mem i.isLt)
  fin_cases i <;> exact byte numeral

end Numerals

theorem packWord_mod_two_pow_16 (op : HostOp) (d : Digits) (p : Word32) :
    (packWord op false d p).toNat % 65536 = op.bits.toNat := by
  simp [toNat_mod_two_pow_16, opField_packWord, onField_packWord, rsvField_packWord]

/-- Settles O11: each call assembles to a packed word, whose fields are the numerals. -/
theorem wellFormedCallsAssembleToTheirFields : Obligations.WellFormedCallsAssembleToTheirFields := by
  intro a b c d e f p hd hlo hhi
  have digit (op : HostOp) (q : Word32) (i : Fin 6) :
      ((digitField (packWord op false (Call.toInstr.digitsOfInts a b c d e f) q) i).toNat : Int) =
        [a, b, c, d, e, f][i] := by
    rw [digitField_packWord, digitsOfInts_toNat hd]
  refine ⟨_, _, assemble_update hd ⟨hlo, hhi⟩, packWord_mod_two_pow_16 .update _ _, assemble_setDisplay hd,
    packWord_mod_two_pow_16 .setDisplay _ _, ?_, periodField_packWord ..,
    fun i => ⟨digit .update _ i, digit .setDisplay _ i⟩⟩
  have field := periodField_packWord .update false (Call.toInstr.digitsOfInts a b c d e f) (BitVec.ofInt 32 p)
  exact (congrArg BitVec.toInt field).trans (BitVec.toInt_ofInt_eq_self (by decide) hlo (by omega))

end Sys2Proof
end

section
/-! SUPPORT. A HOST turn on a reserved word (30_encoding.md R60, 60_exceptions.md R125). -/

namespace Sys2Proof.Machine

theorem hostTurn_of_reserved {s : State} {w : CommandWord} {r : Reason} (h : decode w = .error r) :
    hostTurn w s = .next ({ s with port := s.port.tail }.refuse r) := by
  simp only [hostTurn, h]

/-- Settles O16: the decoder refuses the word, and the refusal is all that the turn does. -/
theorem stepRefusesReservedWords : Obligations.StepRefusesReservedWords := by
  intro s n ts w ws hk hs hp hw
  obtain ⟨r, hr⟩ := (decoderRefusesExactlyTheReservedWords w).mpr hw
  refine ⟨r, ?_, ?_⟩
  · obtain op | ⟨hbits, -, rsv⟩ := decode_eq_error.mp hr
    · exact .inl op
    · exact .inr ⟨hbits, rsv⟩
  · rw [step_of_scheduled hk hs, agentTurn, portWord_of_cons (by exact hp), hostTurn_of_reserved hr]
    simp only [hp, List.tail_cons]
    rfl

end Sys2Proof.Machine
end

section
/-! SUPPORT. The bits of a composed frame (30_encoding.md R50 to R54) and the frames a step records. -/

namespace Sys2Proof

/-! ### The ROM of a legal SEG -/

/-- No pattern of a legal SEG has bit 7 (20_memory.md R31). -/
theorem Config.romRead_getLsbD_seven {c : Config} (h : c.segOk = true) (slot : Fin 6) (code : Fin 17) :
    (c.romRead slot code).getLsbD 7 = false := by
  simp only [Config.segOk, Bool.and_eq_true] at h
  obtain ⟨⟨v1, v2⟩, -⟩ := h
  have table : c.tableOk c.variant = true := by
    cases c.variant with
    | v1 => exact v1
    | v2 => exact v2
  exact (Config.tableOk_iff.mp table slot).2 code

/-! ### The parts of a frame -/

theorem lowField_getLsbD (b : Byte) {i : Nat} (hi : i < 20) : (lowField b).getLsbD i = b.getLsbD i := by
  simp [lowField, hi]

theorem highField_getLsbD (b : Byte) {i : Nat} (hi : i < 20) :
    (highField b).getLsbD i = (decide (8 ≤ i) && b.getLsbD (i - 8)) := by
  by_cases h8 : 8 ≤ i
  · simp [highField, hi, h8]
  · simp [highField, hi, h8]

theorem frameBit_getLsbD (n : Nat) {i : Nat} (hi : i < 20) : (frameBit n).getLsbD i = decide (i = n) := by
  simp only [frameBit, BitVec.getLsbD_shiftLeft, BitVec.getLsbD_one, hi]
  by_cases hn : i = n
  · simp [hn]
  · simp [hn]
    omega

end Sys2Proof

namespace Sys2Proof.Machine

theorem lookup_getLsbD_seven {c : Config} (h : c.segOk = true) (slot : Fin 6) (code : Byte) :
    (lookup c slot code).getLsbD 7 = false := by
  unfold lookup
  split <;> exact Config.romRead_getLsbD_seven h slot _

end Sys2Proof.Machine

namespace Sys2Proof.Safety

open Sys2Proof Sys2Proof.Machine

/-- The dot bit a gate owns for the default DOT_POS; gate 0 owns none (30_encoding.md R53). -/
def ownDot : GateId → Option Nat
  | .gate0 => none
  | .gate1 => some 7
  | .gate2 => some 15

theorem dotField_getLsbD {c : Config} (h : defaultDots c) (g : GateId) (v : Bool) {i : Nat} (hi : i < 20) :
    (dotField c g v).getLsbD i = (v && decide (ownDot g = some i)) := by
  obtain ⟨-, dot1, dot2⟩ := h
  cases v <;> cases g
  case true.gate1 => simp [dotField, dot1, frameBit_getLsbD 7 hi, ownDot, @eq_comm Nat i]
  case true.gate2 => simp [dotField, dot2, frameBit_getLsbD 15 hi, ownDot, @eq_comm Nat i]
  all_goals simp [dotField, ownDot]

/-- Every bit of a composed frame: a pattern's, the gate's or the gate's dot (30_encoding.md R51). -/
theorem composeFor_getLsbD {c : Config} (h : defaultDots c) (g : GateId) (dlo dhi : Byte) (v : Bool) {i : Nat}
    (hi : i < 20) :
    (composeFor c g dlo dhi v).getLsbD i =
      ((decide (8 ≤ i) && (lookup c g.highSlot dhi).getLsbD (i - 8)) || (lookup c g.lowSlot dlo).getLsbD i ||
        decide (i = 16 + g.index) || (v && decide (ownDot g = some i))) := by
  simp only [composeFor, frameOf, BitVec.getLsbD_or, highField_getLsbD _ hi, lowField_getLsbD _ hi,
    frameBit_getLsbD _ hi, dotField_getLsbD h g v hi]

section Composed

variable {c : Config} (h : defaultDots c) (g : GateId) (dlo dhi : Byte) (v : Bool)
include h

/-- Bits 16 to 19 name the gate, one-hot (R52). -/
theorem composeFor_gateBit {k : Nat} (hk : k < 4) :
    (composeFor c g dlo dhi v).getLsbD (16 + k) = decide (k = g.index) := by
  rw [composeFor_getLsbD h g dlo dhi v (by omega)]
  have dot : ownDot g ≠ some (16 + k) := by cases g <;> simp [ownDot] <;> omega
  simp [dot, show 16 + k - 8 = 8 + k by omega, BitVec.getLsbD_of_ge _ (16 + k) (show 8 ≤ 16 + k by omega)]

theorem composeFor_lowPattern {i : Nat} (hi : i < 7) :
    (composeFor c g dlo dhi v).getLsbD i = (lookup c g.lowSlot dlo).getLsbD i := by
  rw [composeFor_getLsbD h g dlo dhi v (by omega)]
  have dot : ownDot g ≠ some i := by cases g <;> simp [ownDot] <;> omega
  simp [dot, show ¬ 8 ≤ i by omega, show i ≠ 16 + g.index by omega]

theorem composeFor_highPattern {i : Nat} (hi : i < 7) :
    (composeFor c g dlo dhi v).getLsbD (8 + i) = (lookup c g.highSlot dhi).getLsbD i := by
  rw [composeFor_getLsbD h g dlo dhi v (by omega)]
  have dot : ownDot g ≠ some (8 + i) := by cases g <;> simp [ownDot] <;> omega
  simp [dot, show 8 + i ≠ 16 + g.index by omega]

/-- Bit 7 is the dot of gate 1 (R53). -/
theorem composeFor_bit7 : (composeFor c g dlo dhi v).getLsbD 7 = (v && decide (g = .gate1)) := by
  rw [composeFor_getLsbD h g dlo dhi v (by omega), lookup_getLsbD_seven h.1]
  cases g <;> simp [ownDot, GateId.index]

/-- Bit 15 is the dot of gate 2 (R53). -/
theorem composeFor_bit15 : (composeFor c g dlo dhi v).getLsbD 15 = (v && decide (g = .gate2)) := by
  rw [composeFor_getLsbD h g dlo dhi v (by omega), lookup_getLsbD_seven h.1]
  cases g <;> simp [ownDot, GateId.index]

theorem frameLaidOut_composeFor : frameLaidOut (composeFor c g dlo dhi v) := by
  have bit16 := composeFor_gateBit h g dlo dhi v (k := 0) (by omega)
  have bit17 := composeFor_gateBit h g dlo dhi v (k := 1) (by omega)
  have bit18 := composeFor_gateBit h g dlo dhi v (k := 2) (by omega)
  have bit19 := composeFor_gateBit h g dlo dhi v (k := 3) (by omega)
  unfold frameLaidOut
  rw [bit16, bit17, bit18, bit19, composeFor_bit7 h, composeFor_bit15 h]
  cases g <;> simp [GateId.index]

end Composed

/-- A byte whose bit 7 is clear is any byte with its other bits, under the mask 0x7F (R54). -/
theorem and_0x7F_eq {a b : Byte} (h7 : b.getLsbD 7 = false) (h : ∀ i < 7, a.getLsbD i = b.getLsbD i) :
    a &&& 0x7F = b := by
  have mask : ∀ i < 8, (0x7F : Byte).getLsbD i = decide (i < 7) := by decide
  refine BitVec.eq_of_getLsbD_eq fun i hi => ?_
  rw [BitVec.getLsbD_and, mask i hi]
  by_cases hi7 : i < 7
  · simp [hi7, h i hi7]
  · obtain rfl : i = 7 := by omega
    rw [h7, decide_eq_false hi7, Bool.and_false]

/-- Settles O35: bit by bit, a composed frame is its two patterns, its gate bit and its gate's dot. -/
theorem frameFieldsCanBeReadBack : Obligations.FrameFieldsCanBeReadBack := by
  rintro c g dlo dhi v f h rfl
  refine ⟨?_, fun k => composeFor_gateBit h g dlo dhi v (by omega), ?_, ?_, ?_⟩
  · rw [show 19 = 16 + 3 from rfl, composeFor_gateBit h g dlo dhi v (by omega)]
    cases g <;> rfl
  · refine and_0x7F_eq (lookup_getLsbD_seven h.1 _ _) fun i hi => ?_
    rw [← composeFor_lowPattern h g dlo dhi v hi]
    simp [show i < 8 by omega]
  · refine and_0x7F_eq (lookup_getLsbD_seven h.1 _ _) fun i hi => ?_
    rw [← composeFor_highPattern h g dlo dhi v hi]
    simp [show i < 8 by omega]
  · rw [composeFor_bit7 h, composeFor_bit15 h]
    cases g <;> simp

/-! ### The frames a step records -/

variable {s t : State}

/-- From `s` to `t` no frame is recorded, or one that COMPOSE built (45_refresh_tick.md R100). -/
def RecordsComposed (s t : State) : Prop :=
  framesOf t.history = framesOf s.history ∨
    ∃ g d v, framesOf t.history = framesOf s.history ++ [composeSnapshot s.cfg g d v]

theorem RecordsComposed.of_no_frame {es : List Event} (hhist : t.history = s.history ++ es) (hes : framesOf es = []) :
    RecordsComposed s t :=
  .inl (by rw [hhist, framesOf_append, hes, List.append_nil])

theorem RecordsComposed.of_same_history (hhist : t.history = s.history) : RecordsComposed s t :=
  .inl (by rw [hhist])

theorem recordsComposed_ticked (s : State) (n : Word32) (g : GateId) : RecordsComposed s (s.ticked n g) :=
  .inr ⟨g, s.snap.disp, _, framesOf_append s.history _⟩

theorem RecordsComposed.accept (h : RecordsComposed s t) (op : HostOp) : RecordsComposed s (t.accept op) := by
  have same : framesOf (t.accept op).history = framesOf t.history := by simp [framesOf_append, framesOf]
  rwa [RecordsComposed, same]

theorem RecordsComposed.hostEffect {i : Instr} (e : HostEffect s i t) : RecordsComposed s t := by
  cases e with
  | refused _ r => exact .of_no_frame (s.refuse_history r) rfl
  | init => exact RecordsComposed.accept (.of_no_frame (initLines_history s) rfl) _
  | power on => exact RecordsComposed.accept (.of_no_frame (s.setBlanking_history (!on)) rfl) _
  | held => exact .of_same_history rfl
  | frame g => exact (recordsComposed_ticked s s.now g).accept _
  | _ => exact RecordsComposed.accept (.of_same_history rfl) _

theorem RecordsComposed.stepEffect (e : StepEffect s t) : RecordsComposed s t := by
  cases e with
  | reserved r ps => exact .of_no_frame (State.refuse_history { s.beginTurn with port := ps } r) rfl
  | host i op ps _ _ e =>
    have host : RecordsComposed { s.beginTurn with port := ps } t := .hostEffect e
    exact host
  | frame g => exact recordsComposed_ticked s.beginTurn.fireServiced s.nextTurn.now g
  | pin =>
    obtain ⟨p, b, hhist⟩ := pinEvent_history s.beginTurn
    exact .of_no_frame hhist rfl
  | _ => exact .of_same_history rfl

/-- Settles O54: a step records at most one frame, composed under the configuration it keeps. -/
theorem stepKeepsEveryFrameLaidOut : Obligations.StepKeepsEveryFrameLaidOut := by
  intro s t hdots hframes hstep
  have effect := (step_effect hstep).2
  obtain ⟨_, recorded⟩ := effect.records
  refine ⟨recorded.cfg ▸ hdots, ?_⟩
  obtain same | ⟨g, d, v, one⟩ := RecordsComposed.stepEffect effect
  · rwa [same]
  · intro f hf
    rw [one, List.mem_append, List.mem_singleton] at hf
    obtain old | rfl := hf
    · exact hframes f old
    · exact frameLaidOut_composeFor hdots g _ _ v

end Sys2Proof.Safety
end

section
/-! SUPPORT. One operation of the serializer: SER_START, SER_STEP, SET_BLANKING (40_serializer.md R70, R71, R74). -/

namespace Sys2Proof.Machine

variable {s : State}

/-! ### SER_START, SET_BLANKING -/

theorem ofBool_eq_ite (b : Bool) : Level.ofBool b = if b then .high else .low := by cases b <;> rfl

/-- Settles O30: SER_BUSY is the one condition of SER_START. -/
theorem serStartAcceptsAFrame : Obligations.SerStartAcceptsAFrame := by
  refine fun f s => ⟨fun hb => ?_, fun hb => ?_⟩
  · exact congrArg finish (serStart_ok.mpr ⟨hb, rfl⟩)
  · exact congrArg finish (serStart_error.mpr ⟨hb, rfl⟩)

/-- Settles O31: SET_BLANKING is one Emit on BLANK_N, which the chip does not see. -/
theorem setBlankingDrivesBlankN : Obligations.SetBlankingDrivesBlankN := by
  intro enabled s
  cases enabled with
  | true => rfl
  | false => rfl

/-! ### One SER_STEP -/

theorem exec_serStep_of_busy (hb : s.ser.busy = true) (hi : s.ser.idx.toNat ≤ 19) :
    exec .serStep s = .next s.pinEvent := by
  have enabled : exec .serStep s = finish s.serStep := if_pos hb
  rw [enabled, serStep_ok.mpr ⟨hi, rfl⟩, finish]

/-- Both cases of a falling CLK edge: the next bit, or the latch pulse after bit 0 (R71). -/
theorem pinEvent_of_clkLo (hp : s.ser.phase = .clkLo) :
    s.pinEvent = { s.emit .clk false with
      ser := if s.ser.idx = 0 then { s.ser with phase := .latchLo }
             else { s.ser with idx := s.ser.idx - 1, phase := .data } } := by
  by_cases h0 : s.ser.idx = 0
  · rw [pinEvent_of_clkLo_last hp h0, if_pos h0]
  · rw [pinEvent_of_clkLo_more hp h0, if_neg h0]

/-- The chip shifts at a rising edge only (R133). -/
theorem observe_clk_of_not_low (c : Chip) {l : Lines} (h : l.clk ≠ .low) (b float : Bool) :
    c.observe l .clk b float = c :=
  observe_other c l .clk b float (fun ⟨_, _, hlow⟩ => h hlow) (by simp)

theorem observe_latchN_rising (c : Chip) (l : Lines) (float : Bool) :
    c.observe l .latchN true float = if l.latchN = .low then ⟨c.sr, c.sr⟩ else c := rfl

/-- Settles O29: the pin event of each phase, and what the chip makes of its edge. -/
theorem serStepPerformsTheNextPinEvent : Obligations.SerStepPerformsTheNextPinEvent := by
  intro s hb hi
  rw [exec_serStep_of_busy hb hi]
  refine ⟨fun hp => ?data, fun hp => ?clkHi, fun hp => ?clkLo, fun hp => ?latchLo, fun hp => ?latchHi⟩
  case data =>
    rw [pinEvent_of_data hp, ← ofBool_eq_ite]
    rfl
  case clkHi =>
    refine ⟨s.chip.observe s.lines .clk true (Config.floatingBit s.draws), fun hclk d hd => ?_,
      fun hclk => observe_clk_of_not_low _ hclk _ _, ?_⟩
    · exact Safety.observe_clk s.chip hclk (hd.trans (ofBool_eq_ite d).symm) _
    · rw [pinEvent_of_clkHi hp]
      rfl
  case clkLo =>
    rw [pinEvent_of_clkLo hp]
    rfl
  case latchLo =>
    rw [pinEvent_of_latchLo hp]
    rfl
  case latchHi =>
    rw [pinEvent_of_latchHi hp, ← observe_latchN_rising _ _ (Config.floatingBit s.draws)]
    rfl

end Sys2Proof.Machine
end

section
/-! SUPPORT. SER_STEPs one after another: how many a transmission takes (40_serializer.md R71, R73), and what the 62 of
them leave on the lines, in the chip and in the history (R75, 60_exceptions.md R133). -/

namespace Sys2Proof.Safety

open Sys2Proof Sys2Proof.Machine

variable {s t : State} {f : FrameWord}

/-! ### SER_STEPs one after another -/

theorem serRun_succ (hb : s.ser.busy = true) (hi : s.ser.idx.toNat ≤ 19) (k : Nat) :
    serRun (k + 1) s = serRun k s.pinEvent := by
  rw [serRun, exec_serStep_of_busy hb hi]

theorem serRun_add {j k : Nat} (h : serRun j s = .next t) : serRun (j + k) s = serRun k t := by
  induction j generalizing s with
  | zero =>
    cases h
    rw [Nat.zero_add]
  | succ j ih =>
    rw [Nat.succ_add, serRun]
    rw [serRun] at h
    split at h
    case h_1 => exact ih h
    all_goals cases h

theorem serRemaining_eq_zero {r : Ser} : serRemaining r = 0 ↔ r.busy = false := by
  unfold serRemaining
  cases hb : r.busy <;> cases r.phase <;> simp

/-- Each pin event is one of the SER_STEPs still to come (R71). -/
theorem serRemaining_pinEvent (hb : s.ser.busy = true) :
    serRemaining s.pinEvent.ser + 1 = serRemaining s.ser := by
  cases hp : s.ser.phase
  case data => simp [pinEvent_of_data hp, serRemaining, hb, hp]
  case clkHi => simp [pinEvent_of_clkHi hp, serRemaining, hb, hp]
  case clkLo =>
    by_cases h0 : s.ser.idx = 0
    · simp [pinEvent_of_clkLo_last hp h0, serRemaining, hb, hp, h0]
    · have hpos : s.ser.idx.toNat ≠ 0 := fun hz => h0 (BitVec.eq_of_toNat_eq hz)
      simp only [pinEvent_of_clkLo_more hp h0, serRemaining, hb, hp, if_true, sub_one_toNat h0]
      omega
  case latchLo => simp [pinEvent_of_latchLo hp, serRemaining, hb, hp]
  case latchHi => simp [pinEvent_of_latchHi hp, serRemaining, hb, hp]

/-- As many SER_STEPs as remain, or fewer, all complete, each taking one off what remains. -/
theorem serRun_next (h : Invariants s) {k : Nat} (hk : k ≤ serRemaining s.ser) :
    ∃ t, serRun k s = .next t ∧ serRemaining t.ser = serRemaining s.ser - k := by
  induction k generalizing s with
  | zero => exact ⟨s, rfl, rfl⟩
  | succ k ih =>
    have hb : s.ser.busy = true := by
      rw [← Bool.not_eq_false, ← serRemaining_eq_zero]
      omega
    have one := serRemaining_pinEvent hb
    obtain ⟨t, hrun, hrem⟩ := ih (h.pinEvent hb) (by omega)
    exact ⟨t, (serRun_succ hb (h.busy_index hb) k).trans hrun, by omega⟩

/-- Settles O50: SER_BUSY = 0 exactly when no SER_STEP remains, and each takes one off. -/
theorem transmissionEndsAfterItsRemainingSteps : Obligations.TransmissionEndsAfterItsRemainingSteps := by
  refine ⟨fun _ => rfl, fun s h _ => ⟨?_, fun k hk => ?_⟩⟩
  · obtain ⟨t, hrun, hrem⟩ := serRun_next h (le_refl _)
    exact ⟨t, hrun, serRemaining_eq_zero.mp (by omega)⟩
  · obtain ⟨u, hrun, hrem⟩ := serRun_next h hk.le
    refine ⟨u, hrun, ?_⟩
    rw [← Bool.not_eq_false, ← serRemaining_eq_zero]
    omega

/-! ### The three events of a bit, and the latch pulse -/

/-- The rising CLK edge, with DATA standing at `b` (R133). -/
theorem emit_clk_rise {b : Bool} (hclk : s.lines.clk = .low) (hdata : s.lines.data = .ofBool b) :
    s.emit .clk true = { s with
      lines := { s.lines with clk := .high }
      chip := ⟨shiftIn s.chip.sr b, s.chip.out⟩
      history := s.history ++ [.emit .clk true] } := by
  rw [State.emit, observe_clk s.chip hclk hdata]
  rfl

/-- DATA set, then a CLK pulse: the chip has shifted the bit in. -/
theorem emit_bit (hclk : s.lines.clk = .low) (b : Bool) :
    ((s.emit .data b).emit .clk true).emit .clk false = { s with
      lines := { s.lines with data := .ofBool b, clk := .low }
      chip := ⟨shiftIn s.chip.sr b, s.chip.out⟩
      history := s.history ++ [.emit .data b, .emit .clk true, .emit .clk false] } := by
  have events : s.history ++ [.emit .data b, .emit .clk true, .emit .clk false] =
      ((s.history ++ [.emit .data b]) ++ [.emit .clk true]) ++ [.emit .clk false] := by simp
  rw [emit_clk_rise (s := s.emit .data b) hclk rfl, events]
  rfl

/-- A bit takes three SER_STEPs; after bit 0 comes the latch pulse (R71). -/
theorem serRun_bit {i : BitVec 5} (hs : s.ser = ⟨true, f, i, .data, true⟩) (hi : i.toNat ≤ 19)
    (hclk : s.lines.clk = .low) :
    serRun 3 s = .next { s with
      ser := if i = 0 then ⟨true, f, i, .latchLo, true⟩ else ⟨true, f, i - 1, .data, true⟩
      lines := { s.lines with data := .ofBool (f.getLsbD i.toNat), clk := .low }
      chip := ⟨shiftIn s.chip.sr (f.getLsbD i.toNat), s.chip.out⟩
      history := s.history ++ bitEvents f i.toNat } := by
  have hi' : s.ser.idx.toNat ≤ 19 := by rw [hs]; exact hi
  calc serRun 3 s = .next { ((s.emit .data (f.getLsbD i.toNat)).emit .clk true).emit .clk false with
      ser := if i = 0 then ⟨true, f, i, .latchLo, true⟩ else ⟨true, f, i - 1, .data, true⟩ } := by
        rw [serRun_succ (by rw [hs]) hi', pinEvent_of_data (by rw [hs]), hs, serRun_succ rfl hi,
          pinEvent_of_clkHi rfl, serRun_succ rfl hi, pinEvent_of_clkLo rfl]
        rfl
    _ = _ := by
        rw [emit_bit hclk]
        rfl

/-- The latch pulse takes two SER_STEPs, and OUT follows SR (R71, R133). -/
theorem serRun_latch (hs : s.ser = ⟨true, f, 0, .latchLo, true⟩) :
    serRun 2 s = .next { s with
      ser := ⟨false, f, 0, .latchHi, true⟩
      lines := { s.lines with latchN := .high }
      chip := ⟨s.chip.sr, s.chip.sr⟩
      history := s.history ++ [.emit .latchN false, .emit .latchN true] } := by
  have h0 : (0 : BitVec 5).toNat ≤ 19 := Nat.zero_le 19
  have hi : s.ser.idx.toNat ≤ 19 := by rw [hs]; exact h0
  rw [serRun_succ (by rw [hs]) hi, pinEvent_of_latchLo (by rw [hs]), hs, serRun_succ rfl h0, pinEvent_of_latchHi rfl,
    List.append_cons s.history]
  rfl

/-! ### All bits of a frame -/

/-- The pin events of the bits `n` down to 0 (R71). -/
def bitsEvents (f : FrameWord) (n : Nat) : List Event := (List.range (n + 1)).flatMap fun k => bitEvents f (n - k)

theorem bitsEvents_succ (f : FrameWord) (n : Nat) : bitsEvents f (n + 1) = bitEvents f (n + 1) ++ bitsEvents f n := by
  rw [bitsEvents, List.range_succ_eq_map, List.flatMap_cons, List.flatMap_map]
  simp only [Nat.sub_zero, Nat.succ_eq_add_one, Nat.add_sub_add_right, bitsEvents]

theorem pinEvents_eq (f : FrameWord) :
    pinEvents f = bitsEvents f 19 ++ [.emit .latchN false, .emit .latchN true] := rfl

/-- Where SR ends in the bits of `f` above bit `n`, the SER_STEPs of bit `n` and those below fill it with `f`. -/
theorem serRun_bits {n : Nat} {i : BitVec 5} (hin : i.toNat = n) (hn : n ≤ 19)
    (hs : s.ser = ⟨true, f, i, .data, true⟩) (hclk : s.lines.clk = .low)
    (hsr : s.chip.sr.toNat % 2 ^ (19 - n) = f.toNat / 2 ^ (n + 1)) :
    serRun (3 * (n + 1)) s = .next { s with
      ser := ⟨true, f, 0, .latchLo, true⟩
      lines := { s.lines with data := .ofBool (f.getLsbD 0), clk := .low }
      chip := ⟨f, s.chip.out⟩
      history := s.history ++ bitsEvents f n } := by
  induction n generalizing s i with
  | zero =>
    obtain rfl : i = 0 := BitVec.eq_of_toNat_eq hin
    have whole : shiftIn s.chip.sr (f.getLsbD 0) = f :=
      BitVec.eq_of_toNat_eq (by simpa [Nat.mod_eq_of_lt (BitVec.isLt _)] using shiftIn_appends_bit hn hsr)
    rw [Nat.zero_add, Nat.mul_one, serRun_bit hs hn hclk, if_pos rfl, hin, whole]
    rfl
  | succ n ih =>
    have h0 : i ≠ 0 := by rintro rfl; cases hin
    have hin' : (i - 1).toNat = n := by rw [sub_one_toNat h0, hin, Nat.add_sub_cancel]
    have bit := serRun_bit hs (hin ▸ hn) hclk
    have shifted := shiftIn_appends_bit hn hsr
    rw [if_neg h0, hin] at bit
    rw [Nat.mul_succ, Nat.add_comm, serRun_add bit, ih hin' (by omega) rfl rfl (by simpa using shifted),
      bitsEvents_succ, ← List.append_assoc]

/-- Settles O49: twenty bits and the latch pulse. -/
theorem sixtyTwoStepsDeliverTheFrame : Obligations.SixtyTwoStepsDeliverTheFrame := by
  intro s f hs hclk _
  refine ⟨rfl, ?_⟩
  have empty : s.chip.sr.toNat % 2 ^ (19 - 19) = f.toNat / 2 ^ (19 + 1) := by
    rw [Nat.sub_self, Nat.pow_zero, Nat.mod_one, Nat.div_eq_of_lt f.isLt]
  have bits := serRun_bits (n := 19) rfl (le_refl 19) hs hclk empty
  rw [show 62 = 3 * (19 + 1) + 2 from rfl, serRun_add bits, serRun_latch rfl, pinEvents_eq, ← List.append_assoc]

end Sys2Proof.Safety
end

section
/-! SUPPORT. That a transmission cannot be disturbed (40_serializer.md R73, R76, 70_reset_and_hazards.md R148): what
every other operation leaves alone while a frame is sent. -/

namespace Sys2Proof.Safety

open Sys2Proof Sys2Proof.Machine

variable {s t : State} {i : Instr}

/-- What a transmission consists of is as it was: the serializer, its three lines and the chip (R73, R148). -/
structure SameTransmission (s t : State) : Prop where
  ser : t.ser = s.ser
  data : t.lines.data = s.lines.data
  clk : t.lines.clk = s.lines.clk
  latchN : t.lines.latchN = s.lines.latchN
  chip : t.chip = s.chip

theorem SameTransmission.of_eq (hser : t.ser = s.ser) (hlines : t.lines = s.lines) (hchip : t.chip = s.chip) :
    SameTransmission s t :=
  ⟨hser, by rw [hlines], by rw [hlines], by rw [hlines], hchip⟩

theorem sameTransmission_setBlanking (s : State) (e : Bool) : SameTransmission s (s.setBlanking e) :=
  ⟨rfl, rfl, rfl, rfl, rfl⟩

/-- INIT needs UNINIT, and a TICK that is not held needs SER_BUSY = 0; the other commands write nothing of it. -/
theorem sameTransmission_hostEffect (hinv : Invariants s) (hb : s.ser.busy = true) (e : HostEffect s i t) :
    SameTransmission s t := by
  have busy : s.ser.busy ≠ false := by simp [hb]
  cases e with
  | init hu => exact absurd (hinv.idle_of_uninit hu) busy
  | early _ _ idle => exact absurd idle busy
  | frame _ _ _ idle => exact absurd idle busy
  | power on =>
    obtain ⟨ser, data, clk, latchN, chip⟩ := sameTransmission_setBlanking s (!on)
    exact ⟨ser, data, clk, latchN, chip⟩
  | _ => exact .of_eq rfl rfl rfl

theorem exec_compose_next {g : GateBits} {dlo dhi : Byte} {v : Bool} (h : exec (.compose g dlo dhi v) s = .next t) :
    ∃ f, t = s.give (.frame f) := by
  simp only [exec, execCompose] at h
  split at h <;> cases h
  exact ⟨_, rfl⟩

theorem exec_nextGate_next (h : exec .nextGate s = .next t) :
    ∃ g : GateId, t = { s with gate := g.succ.bits }.give (.gate g) := by
  simp only [exec, execNextGate] at h
  split at h
  · cases h
  · next g u hg =>
    obtain ⟨-, rfl⟩ := nextGate_ok.mp hg
    cases h
    exact ⟨g, rfl⟩

/-- SER_START, and TICK_BODY which calls it, need SER_BUSY = 0, as TIMER_SERVICE does (R70, R76). -/
theorem sameTransmission_exec (hinv : Invariants s) (hb : s.ser.busy = true) (hi : i ≠ .serStep)
    (h : exec i s = .next t) : SameTransmission s t := by
  have busy : s.ser.busy ≠ false := by simp [hb]
  cases hop : i.hostOp with
  | some op => exact sameTransmission_hostEffect hinv hb (exec_hostEffect hop h)
  | none =>
    cases i <;> simp only [Instr.hostOp, reduceCtorEq] at hop
    case timerFire =>
      simp only [exec, execTimerFire] at h
      split at h <;> cases h <;> exact .of_eq rfl rfl rfl
    case timerService =>
      rw [exec_timerService_of_disabled (serviceEnabled_eq_false.mpr (.inr hb))] at h
      cases h
      exact .of_eq rfl rfl rfl
    case serStep => exact absurd rfl hi
    case serStart f =>
      obtain ⟨idle, -⟩ := serStart_ok.mp (finish_next.mp h)
      exact absurd idle busy
    case tickBody n =>
      obtain ⟨idle, -⟩ := tickBody_ok.mp (finish_next.mp h)
      exact absurd idle busy
    case setBlanking e =>
      cases h
      exact sameTransmission_setBlanking s e
    case compose =>
      obtain ⟨f, rfl⟩ := exec_compose_next h
      exact .of_eq rfl rfl rfl
    case nextGate =>
      obtain ⟨g, rfl⟩ := exec_nextGate_next h
      exact .of_eq rfl rfl rfl
    case lookup => cases h; exact .of_eq rfl rfl rfl
    case blinkStep => cases h; exact .of_eq rfl rfl rfl
    case blinkReset => cases h; exact .of_eq rfl rfl rfl
    case publish => cases h; exact .of_eq rfl rfl rfl

/-- Settles O58: no other operation writes what the transmission consists of, or it is not enabled. -/
theorem transmissionCannotBeDisturbed : Obligations.TransmissionCannotBeDisturbed := by
  intro i s t hinv hb hi h
  obtain ⟨ser, data, clk, latchN, chip⟩ := sameTransmission_exec hinv hb hi h
  exact ⟨ser, data, clk, latchN, chip⟩

end Sys2Proof.Safety
end

section
/-! SUPPORT. LOOKUP over the three ranges of its code (41_segment_lookup.md R80, R82). -/

namespace Sys2Proof

theorem Config.tableOk_of_segOk {c : Config} (h : c.segOk = true) (v : Variant) : c.tableOk v = true := by
  simp only [Config.segOk, Bool.and_eq_true] at h
  obtain ⟨⟨v1, v2⟩, -⟩ := h
  cases v with
  | v1 => exact v1
  | v2 => exact v2

/-- Entry 16 of a legal SEG is blank, whichever variant's table the ROM holds (20_memory.md R31). -/
theorem Config.romRead_sixteen {c : Config} (h : c.segOk = true) (slot : Fin 6) : c.romRead slot 16 = 0#8 :=
  (Config.tableOk_iff.mp (Config.tableOk_of_segOk h c.variant) slot).1

end Sys2Proof

namespace Sys2Proof.Machine

theorem lookup_of_lt (c : Config) (slot : Fin 6) {code : Byte} (h : code.toNat < 17) :
    lookup c slot code = c.romRead slot ⟨code.toNat, h⟩ := dif_pos h

theorem lookup_of_ge (c : Config) (slot : Fin 6) {code : Byte} (h : 17 ≤ code.toNat) :
    lookup c slot code = c.romRead slot 16 := dif_neg (Nat.not_lt.mpr h)

theorem lookup_of_toNat_eq (c : Config) (slot : Fin 6) {code : Byte} {k : Fin 17} (h : code.toNat = k.val) :
    lookup c slot code = c.romRead slot k := by
  rw [lookup_of_lt c slot (h ▸ k.isLt)]
  exact congrArg (c.romRead slot) (Fin.ext h)

/-- Code 16 reads the blank entry, and the codes above it are clamped to it (R80). -/
theorem lookup_of_blank_code {c : Config} (hseg : c.segOk = true) (slot : Fin 6) {code : Byte}
    (h : 16 ≤ code.toNat) : lookup c slot code = 0#8 := by
  rw [← Config.romRead_sixteen hseg slot]
  obtain above | last := Nat.lt_or_eq_of_le h
  · exact lookup_of_ge c slot above
  · exact lookup_of_toNat_eq c slot (k := 16) last.symm

theorem exec_lookup_of_eq {s : State} {slot : Fin 6} {code p : Byte} (h : lookup s.cfg slot code = p) :
    exec (.lookup slot code) s = .next { s with value := some (.pattern p) } := by
  subst h
  rfl

/-- Settles O32: LOOKUP leaves the pattern of its code's range in `value` and writes nothing else. -/
theorem lookupClampsCodesToBlank : Obligations.LookupClampsCodesToBlank := by
  refine fun slot code s => ⟨fun k hk => ?_, fun above => ?_, fun hseg hblank => ?_⟩
  · exact exec_lookup_of_eq (lookup_of_toNat_eq s.cfg slot hk)
  · exact exec_lookup_of_eq (lookup_of_ge s.cfg slot above)
  · exact exec_lookup_of_eq (lookup_of_blank_code hseg slot hblank)

end Sys2Proof.Machine
end

section
/-! SUPPORT. COMPOSE by itself: the frame formula over a raw gate number, and the owners of the dot bits
(42_frame_composer.md R85, R87). -/

namespace Sys2Proof.Machine

@[simp] theorem bits_toNat (g : GateId) : g.bits.toNat = g.index := by cases g <;> rfl

theorem lowSlot_val (g : GateId) : g.lowSlot.val = g.index := by cases g <;> rfl

theorem highSlot_val (g : GateId) : g.highSlot.val = g.index + 3 := by cases g <;> rfl

/-- The dot bit by gate number: DOT_POS has an entry for gates 1 and 2 (30_encoding.md R51). -/
theorem dotField_eq_ite (c : Config) (g : GateId) (v : Bool) :
    dotField c g v =
      if v = true ∧ g.bits = 1 then 1#20 <<< c.dotPos1.val
      else if v = true ∧ g.bits = 2 then 1#20 <<< c.dotPos2.val else 0 := by
  cases v with
  | false => cases g <;> simp [dotField]
  | true => cases g <;> simp [dotField, frameBit, GateId.bits]

theorem exec_compose_three (dlo dhi : Byte) (v : Bool) (s : State) :
    exec (.compose 3 dlo dhi v) s = .fault .composeGate := rfl

theorem exec_compose_bits (g : GateId) (dlo dhi : Byte) (v : Bool) (s : State) :
    exec (.compose g.bits dlo dhi v) s = .next { s with value := some (.frame (composeFor s.cfg g dlo dhi v)) } := by
  cases g <;> rfl

/-- Settles O33: a gate number other than 3 is a gate's, whose two tubes and dot are those of the formula. -/
theorem composeBuildsTheFrame : Obligations.ComposeBuildsTheFrame := by
  refine fun g dlo dhi v s => ⟨?_, fun lo hi hg hlo hhi => ?_⟩
  · rintro rfl
    exact exec_compose_three dlo dhi v s
  · obtain ⟨k, hk⟩ := ofBits_of_ne hg
    obtain rfl := ofBits_eq_some.mp hk
    rw [bits_toNat] at hlo hhi
    obtain rfl : lo = k.lowSlot := Fin.ext (hlo.trans (lowSlot_val k).symm)
    obtain rfl : hi = k.highSlot := Fin.ext (hhi.trans (highSlot_val k).symm)
    rw [exec_compose_bits, composeFor, frameOf, dotField_eq_ite, bits_toNat]
    rfl

end Sys2Proof.Machine

namespace Sys2Proof.Safety

open Sys2Proof Sys2Proof.Machine

/-- Settles O34: bit 7 is the dot of gate 1 and bit 15 the dot of gate 2, since no pattern reaches either. -/
theorem gatesOwnTheirDotBits : Obligations.GatesOwnTheirDotBits := by
  intro c dlo dhi v h
  refine ⟨⟨?gate0_bit7, ?gate0_bit15⟩, ⟨?gate1_bit7, ?gate1_bit15⟩, ⟨?gate2_bit15, ?gate2_bit7⟩⟩
  case gate0_bit7 | gate1_bit7 | gate2_bit7 => rw [composeFor_bit7 h]; simp
  case gate0_bit15 | gate1_bit15 | gate2_bit15 => rw [composeFor_bit15 h]; simp

end Sys2Proof.Safety
end

section
/-! SUPPORT. NEXT_GATE by itself, the cycle of the pointer, and how a step moves it (43_gate_sequencer.md R90 to
R92). -/

namespace Sys2Proof

/-- The cycle from any gate visits every gate (R91). -/
theorem GateId.eq_or_eq_succ_or_eq_succ_succ (g k : GateId) : k = g ∨ k = g.succ ∨ k = g.succ.succ := by
  cases g <;> cases k <;> decide

end Sys2Proof

namespace Sys2Proof.Machine

variable {s : State} {g : GateId}

theorem exec_nextGate_of_bits (h : s.gate = g.bits) :
    exec .nextGate s = .next { s with gate := g.succ.bits, value := some (.gate g) } := by
  have hg : s.nextGate = .ok (g, { s with gate := g.succ.bits }) := nextGate_ok.mpr ⟨h, rfl⟩
  simp only [exec, execNextGate, hg]
  rfl

theorem exec_nextGate_of_three (h : s.gate = 3) : exec .nextGate s = .fault .gatePointer := by
  have hg : s.nextGate = .error .gatePointer := nextGate_error.mpr ⟨h, rfl⟩
  simp only [exec, execNextGate, hg]

/-- Settles O36: 0, 1 and 2 are the three gates' pointers, and 3 is none's. -/
theorem nextGateReturnsThenAdvances : Obligations.NextGateReturnsThenAdvances := fun _ =>
  ⟨exec_nextGate_of_bits (g := .gate0), exec_nextGate_of_bits (g := .gate1), exec_nextGate_of_bits (g := .gate2),
    exec_nextGate_of_three⟩

/-- Settles O37: each NEXT_GATE answers the pointer's gate and moves one on, and three moves come round. -/
theorem gateCycleHasPeriodThree : Obligations.GateCycleHasPeriodThree := by
  intro s g hg
  refine ⟨_, _, _, _, exec_nextGate_of_bits hg, exec_nextGate_of_bits rfl, exec_nextGate_of_bits rfl,
    exec_nextGate_of_bits rfl, rfl, rfl, rfl, ?fourth, ?restored, g.eq_or_eq_succ_or_eq_succ_succ⟩
  case fourth => simp only [succ_succ_succ]
  case restored => simp only [succ_succ_succ, hg]

end Sys2Proof.Machine

namespace Sys2Proof.Safety

open Sys2Proof Sys2Proof.Machine

/-- Settles O56: G moves once per recorded frame (`Displays.gate`), and a step records one frame or none. -/
theorem gateAdvancesOnlyWithAFrame : Obligations.GateAdvancesOnlyWithAFrame := by
  intro s t g hg hstep
  have effect := (step_effect hstep).2
  obtain ⟨es, shown⟩ := displays_stepEffect hg effect
  have hframes : framesOf t.history = framesOf s.history ++ framesOf es := by rw [shown.history, framesOf_append]
  refine ⟨es, shown.history, ?_⟩
  obtain same | ⟨k, d, v, one⟩ := RecordsComposed.stepEffect effect
  · have hes : framesOf es = [] := List.self_eq_append_right.mp (same.symm.trans hframes)
    exact .inl ⟨by simp only [shown.gate, hes, hg, List.length_nil, gateAfter], hes⟩
  · have hes : framesOf es = [composeSnapshot s.cfg k d v] := List.append_cancel_left (hframes.symm.trans one)
    exact .inr ⟨by simp only [shown.gate, hes, List.length_singleton, gateAfter], _, hes⟩

end Sys2Proof.Safety
end

section
/-! SUPPORT. BLINK_STEP and BLINK_RESET: the regimes of the phase, the exact accumulator, and the run lengths after a
publish (44_blink.md R95 to R98). -/

namespace Sys2Proof.Machine

/-! ### The half-period (44_blink.md R97) -/

theorem halfPeriod_eq {p : Word32} (hp : 0 < p.toInt) : (halfPeriod p : Int) = p.toInt / 2 := by
  rw [BitVec.toInt_eq_toNat_of_lt (BitVec.toInt_pos_iff.mp hp.le), halfPeriod]
  rfl

theorem halfPeriod_le (p : Word32) : p.toInt / 2 ≤ 2 ^ 30 - 1 := by
  have hlt : p.toInt < 2 ^ 31 := BitVec.toInt_lt
  omega

/-! ### BLINK_STEP in its regimes (44_blink.md R95) -/

section Regimes

variable {p : Word32} (b : Blink) (delta : Word32)

theorem Blink.step_visible (hp : p.toInt = 0) : b.step p delta = (true, b) :=
  if_pos (BitVec.toInt_inj.mp hp)

theorem Blink.step_hidden (hp : p.toInt < 0) : b.step p delta = (false, b) := by
  have hne : p ≠ 0 := by rintro rfl; exact absurd hp (by decide)
  rw [Blink.step, if_neg hne, if_pos (BitVec.slt_iff_toInt_lt.mpr hp)]

/-- In the toggling regime only the comparison of T with H is left. -/
theorem Blink.step_toggling (hp : 0 < p.toInt) :
    b.step p delta =
      if p.toInt / 2 ≤ b.acc.toNat then (!b.vis, ⟨!b.vis, delta.setWidth 33⟩)
      else (b.vis, ⟨b.vis, b.acc + delta.setWidth 33⟩) := by
  have hne : p ≠ 0 := by rintro rfl; exact absurd hp (by decide)
  have hpos : ¬ p.slt 0 = true := fun h => absurd (BitVec.slt_iff_toInt_lt.mp h) (Int.not_lt.mpr hp.le)
  rw [Blink.step, if_neg hne, if_neg hpos, ← halfPeriod_eq hp, BitVec.zero_add]
  simp only [Int.ofNat_le]

theorem Blink.step_flip (hp : 0 < p.toInt) (h : p.toInt / 2 ≤ b.acc.toNat) :
    b.step p delta = (!b.vis, ⟨!b.vis, delta.setWidth 33⟩) := by
  rw [b.step_toggling delta hp, if_pos h]

theorem Blink.step_accumulate (hp : 0 < p.toInt) (h : b.acc.toNat < p.toInt / 2) :
    b.step p delta = (b.vis, ⟨b.vis, b.acc + delta.setWidth 33⟩) := by
  rw [b.step_toggling delta hp, if_neg (Int.not_le.mpr h)]

/-- The tick shows VIS as the step leaves it. -/
theorem Blink.step_fst_eq_vis (hp : 0 < p.toInt) : (b.step p delta).1 = (b.step p delta).2.vis := by
  rw [b.step_toggling delta hp]
  split <;> rfl

end Regimes

theorem exec_blinkStep_of_eq {p delta : Word32} {s : State} {v : Bool} {b : Blink} (h : s.blink.step p delta = (v, b)) :
    exec (.blinkStep p delta) s = .next { s with blink := b, value := some (.visible v) } := by
  simp only [exec, execBlinkStep, h]
  rfl

/-- Settles O38: the four regimes of the phase, and the visibility left in `value`. -/
theorem blinkStepFollowsThePeriod : Obligations.BlinkStepFollowsThePeriod := fun _ delta s =>
  ⟨fun hp => exec_blinkStep_of_eq (s.blink.step_visible delta hp),
    fun hp => exec_blinkStep_of_eq (s.blink.step_hidden delta hp),
    fun hp h => exec_blinkStep_of_eq (s.blink.step_flip delta hp h),
    fun hp h => exec_blinkStep_of_eq (s.blink.step_accumulate delta hp h)⟩

/-- Settles O41: BLINK_RESET leaves the phase of a publish. -/
theorem blinkResetRestartsThePhase : Obligations.BlinkResetRestartsThePhase := fun _ => rfl

/-! ### The accumulator is exact (44_blink.md R97) -/

/-- A sum below H + 2^32 fits in 33 bits. -/
theorem acc_add_toNat {p : Word32} (delta : Word32) {acc : Accum} (h : acc.toNat < p.toInt / 2) :
    (acc + delta.setWidth 33).toNat = acc.toNat + delta.toNat := by
  have hacc : acc.toNat < 2 ^ 30 := by have := halfPeriod_le p; omega
  have hdelta : (delta.setWidth 33).toNat = delta.toNat := BitVec.toNat_setWidth_of_le (by decide)
  rw [BitVec.toNat_add_of_lt (by rw [hdelta]; omega), hdelta]

/-- Settles O39: after a flip T is delta, and below H the sum does not wrap. -/
theorem blinkAccumulatorNeverOverflows : Obligations.BlinkAccumulatorNeverOverflows := by
  refine fun p delta b hp => ⟨halfPeriod_le p, fun h => ?flip, fun h => ?accumulate⟩
  case flip => rw [b.step_flip delta hp h]; exact BitVec.toNat_setWidth_of_le (by decide)
  case accumulate => rw [b.step_accumulate delta hp h]; exact acc_add_toNat delta h

end Sys2Proof.Machine

namespace Sys2Proof.Safety

open Sys2Proof Sys2Proof.Machine

/-! ### The ticks after a publish (44_blink.md R98) -/

section Ticks

variable {p delta : Word32}

theorem blinkAfter_succ (p delta : Word32) (k : Nat) (b : Blink) :
    blinkAfter p delta (k + 1) b = ((blinkAfter p delta k b).step p delta).2 := by
  induction k generalizing b with
  | zero => rfl
  | succ k ih => exact ih _

theorem visibleOn_eq_vis (hp : 0 < p.toInt) (k : Nat) :
    visibleOn p delta k = (blinkAfter p delta (k + 1) Blink.fresh).vis := by
  rw [blinkAfter_succ]
  exact Blink.step_fst_eq_vis _ delta hp

/-- With H = 0 every tick flips, the first one to hidden. -/
theorem visibleOn_of_half_zero (hp : 0 < p.toInt) (h0 : p.toInt / 2 = 0) (k : Nat) :
    visibleOn p delta k = decide (k % 2 = 1) := by
  have flips (b : Blink) : (b.step p delta).2.vis = !b.vis := by
    rw [b.step_flip delta hp (by omega)]
  rw [visibleOn_eq_vis hp]
  induction k with
  | zero => exact flips _
  | succ k ih => rw [blinkAfter_succ, flips, ih, ← decide_not, decide_eq_decide]; omega

/-- The phase that tick `k` leaves, for runs of `l` ticks: the run's parity, and a delta for each of its ticks so
far. -/
structure RunPhase (l : Nat) (delta : Word32) (k : Nat) (b : Blink) : Prop where
  vis : b.vis = decide (k / l % 2 = 0)
  acc : b.acc.toNat = delta.toNat * (k % l + 1)

/-- One tick goes on with the run while T is below H, which is for `l` ticks, and then begins the next run. -/
theorem RunPhase.step {l k : Nat} {b : Blink} (hp : 0 < p.toInt) (hl : 0 < l)
    (hrun : ∀ n : Nat, p.toInt / 2 ≤ (delta.toNat * n : Nat) ↔ l ≤ n) (r : RunPhase l delta k b) :
    RunPhase l delta (k + 1) (b.step p delta).2 := by
  obtain ⟨_, hflip, haccumulate⟩ := blinkAccumulatorNeverOverflows p delta b hp
  have hk : k % l + 1 + l * (k / l) = k + 1 := by have := Nat.div_add_mod k l; omega
  by_cases hend : l ≤ k % l + 1
  case pos =>
    have hT : p.toInt / 2 ≤ b.acc.toNat := by rw [r.acc, hrun]; exact hend
    have hlast : k % l + 1 = l := Nat.le_antisymm (Nat.mod_lt k hl) hend
    obtain ⟨hdiv, hmod⟩ : (k + 1) / l = k / l + 1 ∧ (k + 1) % l = 0 :=
      (Nat.div_mod_unique hl).mpr ⟨by rw [← hk, hlast]; ring, hl⟩
    constructor
    case vis => rw [b.step_flip delta hp hT, r.vis, hdiv, ← decide_not, decide_eq_decide]; omega
    case acc => rw [hflip hT, hmod, Nat.mul_one]
  case neg =>
    have hT : b.acc.toNat < p.toInt / 2 := by rw [r.acc, ← Int.not_le, hrun]; exact hend
    obtain ⟨hdiv, hmod⟩ : (k + 1) / l = k / l ∧ (k + 1) % l = k % l + 1 :=
      (Nat.div_mod_unique hl).mpr ⟨hk, Nat.not_le.mp hend⟩
    constructor
    case vis => rw [b.step_accumulate delta hp hT, r.vis, hdiv]
    case acc => rw [haccumulate hT, r.acc, hmod, Nat.mul_succ _ (k % l + 1)]

/-- The first tick shows the fresh phase, with T = 0 below H. -/
theorem runPhase_fresh {l : Nat} (hp : 0 < p.toInt) (hH : 0 < p.toInt / 2) :
    RunPhase l delta 0 (Blink.fresh.step p delta).2 := by
  have hT : Blink.fresh.acc.toNat < p.toInt / 2 := hH
  obtain ⟨_, _, haccumulate⟩ := blinkAccumulatorNeverOverflows p delta Blink.fresh hp
  constructor
  case vis => rw [Blink.step_accumulate _ delta hp hT, Nat.zero_div]; rfl
  case acc => rw [haccumulate hT, Nat.zero_mod, Nat.mul_one]; exact Nat.zero_add _

theorem runPhase_blinkAfter {l : Nat} (hp : 0 < p.toInt) (hl : 0 < l)
    (hrun : ∀ n : Nat, p.toInt / 2 ≤ (delta.toNat * n : Nat) ↔ l ≤ n) (k : Nat) :
    RunPhase l delta k (blinkAfter p delta (k + 1) Blink.fresh) := by
  induction k with
  | zero =>
    have hH : ¬ p.toInt / 2 ≤ (delta.toNat * 0 : Nat) := by rw [hrun]; exact Nat.not_le.mpr hl
    exact runPhase_fresh hp (Int.not_le.mp hH)
  | succ k ih => rw [blinkAfter_succ]; exact ih.step hp hl hrun

end Ticks

/-- Settles O40: runs of one tick from hidden for H = 0; otherwise `n` deltas reach H exactly from `n = ceil(H / delta)`
on. -/
theorem blinkRunLengthsAreTheHalfPeriod : Obligations.BlinkRunLengthsAreTheHalfPeriod := by
  refine fun p delta h hp hdelta hH => ⟨fun h0 => ?_, fun hpos k => ?_⟩
  · exact visibleOn_of_half_zero hp (by omega)
  · have hrun (n : Nat) : p.toInt / 2 ≤ (delta.toNat * n : Nat) ↔ h ⌈/⌉ delta.toNat ≤ n := by
      rw [← hH, Int.ofNat_le, ceilDiv_le_iff_le_mul hdelta]
    have hl : 0 < h ⌈/⌉ delta.toNat := by
      rw [← Nat.not_le, ceilDiv_le_iff_le_mul hdelta]; omega
    rw [visibleOn_eq_vis hp, (runPhase_blinkAfter hp hl hrun k).vis, Nat.ceilDiv_eq_add_pred_div]

end Sys2Proof.Safety
end

section
/-! SUPPORT. One operation of the refresh scheduler: TICK_BODY, TICK, TIMER_FIRE, TIMER_SERVICE (45_refresh_tick.md
R100 to R105), each branch of its meaning, and a HOST turn on a held TICK (46_host_commands.md R117). -/

namespace Sys2Proof.Machine

variable {s : State}

/-! ### TICK_BODY -/

theorem tickBody_of_idle (hb : s.ser.busy = false) {g : GateId} (hg : s.gate = g.bits) (n : Word32) :
    s.tickBody n = .ok (s.ticked n g) :=
  tickBody_ok.mpr ⟨hb, g, hg, rfl⟩

/-- The state after TICK_BODY, where BLINK_STEP answers visibility `v` and leaves phase `b` (R100). -/
theorem ticked_of_blink {n : Word32} {v : Bool} {b : Blink} (h : s.blink.step s.snap.per (n - s.lastMs) = (v, b))
    (g : GateId) :
    s.ticked n g = { s with
      lastMs := n
      lastMsWritten := true
      gate := g.succ.bits
      blink := b
      ser := ⟨true, composeSnapshot s.cfg g s.snap.disp v, 19, .data, true⟩
      ds := if s.ds = .configured then .running else s.ds
      history := s.history ++ [.frame (composeSnapshot s.cfg g s.snap.disp v)] } := by
  simp only [State.ticked, elapsed, h]
  rfl

/-- Settles O42: `ticked` is the pseudocode's state, and each gate has its two tubes. -/
theorem tickBodyProducesOneFrame : Obligations.TickBodyProducesOneFrame := by
  refine ⟨fun c d v => ⟨rfl, rfl, rfl⟩, fun n s g v b hb hg hblink => ?_⟩
  rw [← ticked_of_blink hblink]
  exact congrArg finish (tickBody_of_idle hb hg n)

/-! ### TICK -/

theorem whenInitialized_of_initialized {k : State → Host.Outcome State Fault Refusal} (hu : s.ds ≠ .uninit) :
    whenInitialized s k = k s := if_neg hu

theorem exec_tick_of_uninit (hu : s.ds = .uninit) : exec .tick s = .next (s.refuse .notInitialized) := if_pos hu

section Initialized

variable (hu : s.ds ≠ .uninit)
include hu

theorem exec_tick_of_timer (hm : s.cfg.driveMode = .timer) : exec .tick s = .next (s.refuse .tickInTimerMode) := by
  simp only [exec, execTick, whenInitialized_of_initialized hu]
  exact if_pos (by simp [hm])

variable (hm : s.cfg.driveMode = .polled)
include hm

theorem exec_tick_of_busy (hb : s.ser.busy = true) : exec .tick s = .next s := by
  simp only [exec, execTick, whenInitialized_of_initialized hu, hm, hb, ne_eq, not_true_eq_false, if_false, if_true]

theorem exec_tick_of_early (hb : s.ser.busy = false) (he : (s.now - s.lastMs).toNat < s.cfg.tickMs) :
    exec .tick s = .next (s.accept .tick) := by
  simp only [exec, execTick, whenInitialized_of_initialized hu, hm, hb, elapsed, he, ne_eq, not_true_eq_false,
    Bool.false_eq_true, if_false, if_true]

theorem exec_tick_of_due (hb : s.ser.busy = false) (hdue : s.cfg.tickMs ≤ (s.now - s.lastMs).toNat) {g : GateId}
    (hg : s.gate = g.bits) : exec .tick s = .next ((s.ticked s.now g).accept .tick) := by
  simp only [exec, execTick, whenInitialized_of_initialized hu, hm, hb, elapsed, Nat.not_lt.mpr hdue,
    tickBody_of_idle hb hg, ne_eq, not_true_eq_false, Bool.false_eq_true, if_false]

end Initialized

/-- Settles O24: the five branches of TICK. -/
theorem tickProducesAFrameWhenDue : Obligations.TickProducesAFrameWhenDue := by
  refine fun s => ⟨exec_tick_of_uninit, exec_tick_of_timer, exec_tick_of_busy, fun hu hm hb early => ?_,
    fun hu hm hb due g hg v b hblink => ?_⟩
  · exact ⟨[.cmd .tick], .inr rfl, exec_tick_of_early hu hm hb early⟩
  · refine ⟨[.frame (composeSnapshot s.cfg g s.snap.disp v), .cmd .tick], .refl _, ?_⟩
    rw [exec_tick_of_due hu hm hb due hg, ticked_of_blink hblink, State.accept, State.record, List.append_assoc]
    rfl

theorem hostTurn_of_held {w : CommandWord} {i : Instr} (hi : decode w = .ok i) (hh : s.holdsCommand i = true) :
    hostTurn w s = .next { s with port := w :: s.port.tail } := by
  simp only [hostTurn, hi, hh, if_true]

/-- Settles O15: a held TICK's word is put back in front of the port. -/
theorem heldTickStaysOnThePort : Obligations.HeldTickStaysOnThePort := by
  intro s n ts w ws hk hs hp hi hu hm hb
  have held : ({ s with schedule := ts, now := n, draws := s.draws + 1 } : State).holdsCommand .tick = true :=
    holdsCommand_iff.mpr ⟨rfl, hu, hm, hb⟩
  rw [step_of_scheduled hk hs, agentTurn, portWord_of_cons (by exact hp), hostTurn_of_held hi held]
  simp only [hp, List.tail_cons]

/-! ### TIMER_FIRE, TIMER_SERVICE -/

theorem exec_timerFire_of_armed (hm : s.cfg.driveMode = .timer) (ha : s.armed = true) :
    exec .timerFire s = .next s.firePending :=
  if_pos (by simp [State.timerEnabled, hm, ha])

/-- Settles O26: FIRE_PEND is not among the conditions of a firing. -/
theorem timerFireSetsFirePending : Obligations.TimerFireSetsFirePending := fun _ hm ha =>
  ⟨exec_timerFire_of_armed hm ha, exec_timerFire_of_armed hm ha⟩

section Serviced

variable (hf : s.firePend = true) (hb : s.ser.busy = false)
include hf hb

theorem serviceEnabled_of_pending : s.serviceEnabled = true := by simp [State.serviceEnabled, hf, hb]

theorem exec_timerService_of_logoff (hl : s.logoffPend = true) :
    exec .timerService s = .next s.fireServiced.teardown := by
  simp only [exec, execTimerService, serviceEnabled_of_pending hf hb, hl, if_true]

theorem exec_timerService_of_frame (hl : s.logoffPend = false) {g : GateId} (hg : s.gate = g.bits) :
    exec .timerService s = .next (s.fireServiced.ticked s.now g) := by
  have body := tickBody_of_idle (s := s.fireServiced) hb hg s.now
  simp only [exec, execTimerService, serviceEnabled_of_pending hf hb, hl, body, finish, if_true, Bool.false_eq_true,
    if_false]

end Serviced

/-- Settles O27: the two branches of an enabled service. -/
theorem timerServiceTearsDownOrProducesAFrame : Obligations.TimerServiceTearsDownOrProducesAFrame := by
  refine fun s hf hb => ⟨exec_timerService_of_logoff hf hb, fun hl g hg v b hblink => ?_⟩
  rw [exec_timerService_of_frame hf hb hl hg, ticked_of_blink (s := s.fireServiced) hblink]
  rfl

end Sys2Proof.Machine
end

section
/-! SUPPORT. That a log-off silences the display until an UPDATE (45_refresh_tick.md R109, 60_exceptions.md R124): what
each operation a step can run does to a quiet state. -/

namespace Sys2Proof.Safety

open Sys2Proof Sys2Proof.Machine

variable {s t : State} {es : List Event}

/-! ### LOG_OFF -/

theorem Quiet.of_same (q : Quiet s) (hcfg : t.cfg = s.cfg) (hds : t.ds = s.ds) (harmed : t.armed = s.armed)
    (hpend : t.logoffPend = s.logoffPend) : Quiet t :=
  ⟨hcfg ▸ q.timer_mode, hds ▸ q.initialized, by rw [harmed, hpend]; exact q.armed_pending⟩

theorem quiet_requestLogoff (hm : s.cfg.driveMode = .timer) (hu : s.ds ≠ .uninit) : Quiet s.requestLogoff :=
  ⟨hm, hu, fun ha => by rw [State.requestLogoff_armed] at ha; simp [ha]⟩

/-- What an accepted LOG_OFF leaves (46_host_commands.md R115). -/
theorem quiet_logOff (hm : s.cfg.driveMode = .timer) (hu : s.ds ≠ .uninit) :
    Quiet ((s.publish s.cfg.dispReset (some s.cfg.perReset)).requestLogoff.accept .logOff) :=
  have published : Quiet (s.publish s.cfg.dispReset (some s.cfg.perReset)).requestLogoff := quiet_requestLogoff hm hu
  published.of_same rfl rfl rfl rfl

theorem exec_logOff_of_timer (hu : s.ds ≠ .uninit) (hm : s.cfg.driveMode = .timer) :
    exec .logOff s =
      .next ((s.publish s.cfg.dispReset (some s.cfg.perReset)).requestLogoff.accept .logOff) := by
  simp only [exec, execLogOff, whenInitialized_of_initialized hu, hm, ne_eq, not_true_eq_false, if_false]

/-! ### Every step, every run -/

/-- From `s` to `t` the events `es` are recorded: an UPDATE is among them, or no frame is and `t` is quiet (R109). -/
structure QuietUntilUpdate (s t : State) (es : List Event) : Prop where
  history : t.history = s.history ++ es
  silent : Event.cmd .update ∈ es ∨ (Quiet t ∧ framesOf es = [])

theorem QuietUntilUpdate.of_no_frame (q : Quiet t) (hhist : t.history = s.history ++ es) (hes : framesOf es = []) :
    QuietUntilUpdate s t es :=
  ⟨hhist, .inr ⟨q, hes⟩⟩

theorem QuietUntilUpdate.of_same_history (q : Quiet t) (hhist : t.history = s.history) : QuietUntilUpdate s t [] :=
  .of_no_frame q (by rw [hhist, List.append_nil]) rfl

/-- In timer mode every TICK is refused, and only an UPDATE arms the timer without a log-off pending. -/
theorem Quiet.hostEffect {i : Instr} (q : Quiet s) (e : HostEffect s i t) : ∃ es, QuietUntilUpdate s t es := by
  have not_polled : s.cfg.driveMode ≠ .polled := by simp [q.timer_mode]
  cases e with
  | refused _ r => exact ⟨[.refused r], .of_no_frame (q.of_same rfl rfl rfl rfl) rfl rfl⟩
  | init hu => exact absurd hu q.initialized
  | setDisplay => exact ⟨[.cmd .setDisplay], .of_no_frame (q.of_same rfl rfl rfl rfl) rfl rfl⟩
  | updatePolled | updateTimer => exact ⟨[.cmd .update], rfl, .inl (by simp)⟩
  | clear => exact ⟨[.cmd .clear], .of_no_frame (q.of_same rfl rfl rfl rfl) rfl rfl⟩
  | logOff hu hm => exact ⟨[.cmd .logOff], .of_no_frame (quiet_logOff hm hu) rfl rfl⟩
  | power on =>
    exact ⟨[.emit .blankN (!!on), .cmd .power], .of_no_frame (q.of_same rfl rfl rfl rfl) (by simp) rfl⟩
  | held _ hm | early _ hm | frame _ _ hm => exact absurd hm not_polled

/-- A firing is pending only while the timer is armed (10_state.md R28), so its service sees the log-off. -/
theorem Quiet.stepEffect (hinv : Invariants s) (q : Quiet s) (e : StepEffect s t) : ∃ es, QuietUntilUpdate s t es := by
  cases e with
  | reserved r => exact ⟨[.refused r], .of_no_frame (q.of_same rfl rfl rfl rfl) rfl rfl⟩
  | host i op ps _ _ e =>
    have turn : Quiet { s.beginTurn with port := ps } := q.of_same rfl rfl rfl rfl
    obtain ⟨es, history, silent⟩ := turn.hostEffect e
    exact ⟨es, history, silent⟩
  | tornDown => exact ⟨[], .of_same_history ⟨q.timer_mode, by simp, by simp⟩ rfl⟩
  | frame g hf _ hl =>
    have pending := q.armed_pending (hinv.armed_of_pending hf)
    rw [hl] at pending
    cases pending
  | pin =>
    obtain ⟨p, b, hhist⟩ := pinEvent_history s.beginTurn
    have frame := pinEvent_frame s.beginTurn
    exact ⟨[.emit p b], .of_no_frame
      (q.of_same (by rw [frame]; rfl) (by rw [frame]; rfl) (by rw [frame]; rfl) (by rw [frame]; rfl)) hhist rfl⟩
  | held | passed | fired => exact ⟨[], .of_same_history (q.of_same rfl rfl rfl rfl) rfl⟩

theorem run_history (n : Nat) (h : Host.Core.run Sys2Proof.core n s = .next t) : ∃ es, t.history = s.history ++ es := by
  induction n generalizing s with
  | zero => cases h; exact ⟨[], (List.append_nil _).symm⟩
  | succ n ih =>
    obtain ⟨u, hstep, hrun⟩ := run_succ_next.mp h
    obtain ⟨es, first⟩ := (step_effect hstep).2.records
    obtain ⟨fs, rest⟩ := ih hrun
    exact ⟨es ++ fs, by rw [rest, first.history, List.append_assoc]⟩

theorem Quiet.run (n : Nat) (hinv : Invariants s) (q : Quiet s) (h : Host.Core.run Sys2Proof.core n s = .next t) :
    ∃ es, QuietUntilUpdate s t es := by
  induction n generalizing s with
  | zero => cases h; exact ⟨[], .of_same_history q rfl⟩
  | succ n ih =>
    obtain ⟨u, hstep, hrun⟩ := run_succ_next.mp h
    obtain ⟨es, first, update | ⟨quiet, frameless⟩⟩ := q.stepEffect hinv (step_effect hstep).2
    · obtain ⟨fs, rest⟩ := run_history n hrun
      exact ⟨es ++ fs, by rw [rest, first, List.append_assoc], .inl (List.mem_append_left fs update)⟩
    · obtain ⟨fs, rest, silent⟩ := ih (stepKeepsTheInvariants s u hinv hstep) quiet hrun
      exact ⟨es ++ fs, by rw [rest, first, List.append_assoc],
        silent.imp (List.mem_append_right es) fun ⟨qt, hfs⟩ => ⟨qt, by rw [framesOf_append, frameless, hfs]; rfl⟩⟩

/-- Settles O52: LOG_OFF leaves a quiet state, and each step of a run keeps it quiet until the UPDATE. -/
theorem logOffSilencesTheDisplayUntilAnUpdate : Obligations.LogOffSilencesTheDisplayUntilAnUpdate := by
  refine ⟨fun s t _ hu hm h => ?_, fun n s t hinv q hrun => ?_⟩
  · rw [exec_logOff_of_timer hu hm] at h
    cases h
    exact quiet_logOff hm hu
  · obtain ⟨es, history, silent⟩ := q.run n hinv hrun
    exact ⟨es, history, silent⟩

end Sys2Proof.Safety
end

section
/-! SUPPORT. Which operations write the snapshot (10_state.md R11, 45_refresh_tick.md R108). -/

namespace Sys2Proof.Machine

variable {s t : State} {i : Instr}

theorem exec_timerFire_next (h : exec .timerFire s = .next t) : t = s ∨ t = s.firePending := by
  simp only [exec, execTimerFire] at h
  split at h <;> cases h
  · exact .inr rfl
  · exact .inl rfl

theorem exec_timerService_next (h : exec .timerService s = .next t) :
    t = s ∨ t = s.fireServiced.teardown ∨ ∃ g : GateId, t = s.fireServiced.ticked s.now g := by
  simp only [exec, execTimerService] at h
  split at h
  · split at h
    · cases h
      exact .inr (.inl rfl)
    · obtain ⟨-, g, -, rfl⟩ := tickBody_ok.mp (finish_next.mp h)
      exact .inr (.inr ⟨g, rfl⟩)
  · cases h
    exact .inl rfl

theorem exec_serStep_next (h : exec .serStep s = .next t) : t = s ∨ t = s.pinEvent := by
  simp only [exec, execSerStep] at h
  split at h
  · obtain ⟨-, rfl⟩ := serStep_ok.mp (finish_next.mp h)
    exact .inr rfl
  · cases h
    exact .inl rfl

theorem pinEvent_snap (s : State) : s.pinEvent.snap = s.snap := by rw [pinEvent_frame]

/-- The host commands that do not publish leave the snapshot (46_host_commands.md R111, R116, R102). -/
theorem HostEffect.snap (e : HostEffect s i t) (hset : ∀ d, i ≠ .setDisplay d) (hupdate : ∀ d p, i ≠ .update d p)
    (hclear : i ≠ .clear) (hlogOff : i ≠ .logOff) : t.snap = s.snap := by
  cases e with
  | init => exact s.initLines_snap
  | setDisplay d => exact absurd rfl (hset d)
  | updatePolled d p | updateTimer d p => exact absurd rfl (hupdate d p)
  | clear => exact absurd rfl hclear
  | logOff => exact absurd rfl hlogOff
  | refused | power | held | early | frame => rfl

/-- Settles O57: of the operations without a word PUBLISH alone writes the snapshot. -/
theorem onlyPublishesWriteTheSnapshot : Obligations.OnlyPublishesWriteTheSnapshot := by
  intro i s t hset hupdate hclear hlogOff hpublish h
  cases hop : i.hostOp with
  | some op => exact (exec_hostEffect hop h).snap hset hupdate hclear hlogOff
  | none =>
    cases i <;> simp only [Instr.hostOp, reduceCtorEq] at hop
    case timerFire => obtain rfl | rfl := exec_timerFire_next h <;> rfl
    case timerService => obtain rfl | rfl | ⟨g, rfl⟩ := exec_timerService_next h <;> rfl
    case serStep =>
      obtain rfl | rfl := exec_serStep_next h
      · rfl
      · exact pinEvent_snap s
    case serStart f =>
      obtain ⟨-, rfl⟩ := serStart_ok.mp (finish_next.mp h)
      rfl
    case tickBody n =>
      obtain ⟨-, g, -, rfl⟩ := tickBody_ok.mp (finish_next.mp h)
      rfl
    case compose => obtain ⟨f, rfl⟩ := Safety.exec_compose_next h; rfl
    case nextGate => obtain ⟨g, rfl⟩ := Safety.exec_nextGate_next h; rfl
    case publish d p => exact absurd rfl (hpublish d p)
    case setBlanking | lookup | blinkStep | blinkReset => cases h; rfl

end Sys2Proof.Machine
end

section
/-! SUPPORT. That the drive mode does not show in the frames (45_refresh_tick.md R100, R102, R105): what TICK_BODY makes
of two states that agree on what a frame is made from. -/

namespace Sys2Proof.Safety

open Sys2Proof Sys2Proof.Machine

variable {s t : State}

theorem SameDisplay.lookup_eq (same : SameDisplay s t) (slot : Fin 6) (code : Byte) :
    lookup s.cfg slot code = lookup t.cfg slot code := by
  simp only [lookup, same.rom]

theorem SameDisplay.dotField_eq (same : SameDisplay s t) (g : GateId) (v : Bool) :
    dotField s.cfg g v = dotField t.cfg g v := by
  simp only [dotField_eq_ite, same.dot1, same.dot2]

theorem SameDisplay.composeSnapshot_eq (same : SameDisplay s t) (g : GateId) (d : Digits) (v : Bool) :
    composeSnapshot s.cfg g d v = composeSnapshot t.cfg g d v := by
  simp only [composeSnapshot, composeFor, frameOf, same.lookup_eq, same.dotField_eq]

theorem SameDisplay.ticked (same : SameDisplay s t) (n : Word32) (g : GateId) :
    SameDisplay (s.ticked n g) (t.ticked n g) where
  rom := same.rom
  dot1 := same.dot1
  dot2 := same.dot2
  snap := same.snap
  gate := rfl
  blink := by simp only [State.ticked, same.blink, same.snap, same.last]
  last := rfl

theorem SameDisplay.ticked_frame (same : SameDisplay s t) (n : Word32) (g : GateId) :
    (s.ticked n g).ser.frame = (t.ticked n g).ser.frame := by
  simp only [State.ticked, Ser.started, same.blink, same.snap, same.last, same.composeSnapshot_eq]

theorem framesOf_ticked (s : State) (n : Word32) (g : GateId) :
    framesOf (s.ticked n g).history = framesOf s.history ++ [(s.ticked n g).ser.frame] := framesOf_append _ _

theorem framesOf_accept (s : State) (op : HostOp) : framesOf (s.accept op).history = framesOf s.history := by
  simp [framesOf_append, framesOf]

/-- Settles O60: both are TICK_BODY(NOW), which reads nothing else of the two states. -/
theorem bothDriveModesProduceTheSameFrames : Obligations.BothDriveModesProduceTheSameFrames := by
  intro s t same hnow hgate hu hm hb hdue hf hl hb'
  obtain ⟨g, hg⟩ := ofBits_of_ne hgate
  have hg : s.gate = g.bits := ofBits_eq_some.mp hg
  have serviced : SameDisplay s t.fireServiced := { same with }
  refine ⟨(s.ticked s.now g).accept .tick, t.fireServiced.ticked t.now g, (s.ticked s.now g).ser.frame,
    exec_tick_of_due hu hm hb hdue hg, exec_timerService_of_frame hf hb' hl (same.gate.symm.trans hg), ?_, ?_, ?_⟩
  · rw [framesOf_accept, framesOf_ticked]
  · rw [serviced.ticked_frame, hnow, framesOf_ticked, State.fireServiced_history]
  · rw [← hnow]
    exact { serviced.ticked s.now g with }

end Sys2Proof.Safety
end

section
/-! SUPPORT. The host commands (46_host_commands.md R110 to R117): the refusal before INIT, said once for all of them,
and each branch of a command's meaning. -/

namespace Sys2Proof.Machine

variable {s : State}

/-! ### Before INIT -/

/-- Settles O25: every meaning but INIT's starts with `whenInitialized`, so DS is tested before the drive mode. -/
theorem commandsBeforeInitAreRefused : Obligations.CommandsBeforeInitAreRefused := by
  intro i op s hop hinit hu
  cases i <;> simp only [Instr.hostOp, Option.some.injEq, reduceCtorEq] at hop
  case init => exact absurd hop.symm hinit
  case setDisplay | update | clear | logOff | power | tick => exact if_pos hu

/-! ### INIT -/

/-- The chip latches on a rise of LATCH_N from 0, and an undriven line does not stand at 0 (60_exceptions.md R133). -/
theorem initLines_chip_of_undriven (h : s.lines = ⟨.z, .z, .z, .z⟩) : s.initLines.chip = s.chip := by
  have not_low : s.lines.latchN ≠ .low := by simp [h]
  calc s.initLines.chip
    _ = s.chip.observe ⟨.low, .low, s.lines.latchN, s.lines.blankN⟩ .latchN true (Config.floatingBit s.draws) := rfl
    _ = s.chip := observe_other _ _ _ _ _ (by simp) (fun ⟨_, _, hlow⟩ => not_low hlow)

theorem exec_init_of_uninit (hu : s.ds = .uninit) :
    exec .init s = .next ({ s.initLines.writeLastMs s.now with ds := .configured }.accept .init) :=
  if_neg (not_not.mpr hu)

theorem exec_init_of_initialized (hu : s.ds ≠ .uninit) : exec .init s = .next (s.refuse .reinit) := if_pos hu

/-- Settles O18: INIT's four Emits leave the chip as it was, since no line was driven before. -/
theorem initDrivesTheLinesAndConfigures : Obligations.InitDrivesTheLinesAndConfigures := by
  refine fun s => ⟨fun hu undriven => ?_, exec_init_of_initialized⟩
  refine ⟨_, .refl _, ?_⟩
  rw [exec_init_of_uninit hu, initLines_frame, initLines_chip_of_undriven undriven, initLines_history, State.accept,
    State.record]
  simp only [State.writeLastMs, List.append_assoc, List.cons_append, List.nil_append]

/-! ### PUBLISH -/

/-- Settles O44: PUBLISH is one update of the snapshot and the phase. -/
theorem publishReplacesTheSnapshot : Obligations.PublishReplacesTheSnapshot := fun _ _ _ => ⟨rfl, rfl⟩

/-! ### The commands after INIT -/

section Initialized

variable (hu : s.ds ≠ .uninit)
include hu

theorem exec_setDisplay_of_initialized (d : Digits) :
    exec (.setDisplay d) s = .next ((s.publish d none).accept .setDisplay) := if_neg hu

theorem exec_clear_of_initialized :
    exec .clear s = .next ((s.publish Digits.blank (some s.cfg.perReset)).accept .clear) :=
  if_neg hu

theorem exec_power_of_initialized (on : Bool) : exec (.power on) s = .next ((s.setBlanking (!on)).accept .power) :=
  if_neg hu

theorem exec_update_of_polled (hm : s.cfg.driveMode = .polled) (d : Digits) (p : Word32) :
    exec (.update d p) s = .next ((s.publish d (some p)).accept .update) := by
  simp only [exec, execUpdate, whenInitialized_of_initialized hu, hm, reduceCtorEq, if_false]

theorem exec_update_of_timer (hm : s.cfg.driveMode = .timer) (d : Digits) (p : Word32) :
    exec (.update d p) s = .next ((s.publish d (some p)).arm.accept .update) := by
  simp only [exec, execUpdate, whenInitialized_of_initialized hu, hm, if_true]

theorem exec_logOff_of_polled (hm : s.cfg.driveMode = .polled) :
    exec .logOff s = .next (s.refuse .logOffInPolledMode) := by
  simp only [exec, execLogOff, whenInitialized_of_initialized hu, hm, ne_eq, reduceCtorEq, not_false_eq_true, if_true]

end Initialized

theorem setBlanking_not (s : State) (on : Bool) : s.setBlanking (!on) = s.emit .blankN on := by
  rw [State.setBlanking, Bool.not_not]

/-- A log-off is requested where the timer is armed, and one already pending stays (R115). -/
theorem requestLogoff_eq_ite (s : State) :
    s.requestLogoff = { s with logoffPend := if s.armed = true then true else s.logoffPend } := by
  cases ha : s.armed <;> simp [State.requestLogoff, ha]

/-- Settles O19: a publish that keeps the period, in every DS but UNINIT. -/
theorem setDisplayPublishesDigitsAndKeepsThePeriod : Obligations.SetDisplayPublishesDigitsAndKeepsThePeriod :=
  fun d s => ⟨commandsBeforeInitAreRefused (.setDisplay d) .setDisplay s rfl (by decide),
    fun hu => exec_setDisplay_of_initialized hu d⟩

/-- Settles O20: in timer mode the publish is followed by `State.arm`, in polled mode by nothing. -/
theorem updatePublishesAndArmsInTimerMode : Obligations.UpdatePublishesAndArmsInTimerMode := fun d p s =>
  ⟨commandsBeforeInitAreRefused (.update d p) .update s rfl (by decide),
    fun hu hm => exec_update_of_polled hu hm d p, fun hu hm => exec_update_of_timer hu hm d p⟩

/-- Settles O21: a publish of the blank digits with PER_RESET, whatever the drive mode. -/
theorem clearPublishesBlankDigits : Obligations.ClearPublishesBlankDigits := fun s =>
  ⟨commandsBeforeInitAreRefused .clear .clear s rfl (by decide), exec_clear_of_initialized⟩

/-- Settles O22: DS is tested before the drive mode, and only ARMED decides whether the log-off is left pending. -/
theorem logOffPublishesAndRequestsTheTeardown : Obligations.LogOffPublishesAndRequestsTheTeardown := by
  refine fun s => ⟨commandsBeforeInitAreRefused .logOff .logOff s rfl (by decide), exec_logOff_of_polled,
    fun hu hm => ?_⟩
  rw [Safety.exec_logOff_of_timer hu hm, requestLogoff_eq_ite]
  rfl

/-- Settles O23: POWER(on) is SET_BLANKING(not on), whose one Emit drives BLANK_N to `on`. -/
theorem powerSetsTheBlankingLine : Obligations.PowerSetsTheBlankingLine := by
  refine fun on s => ⟨commandsBeforeInitAreRefused (.power on) .power s rfl (by decide), fun hu => ?_⟩
  refine ⟨[.emit .blankN on, .cmd .power], .refl _, ?_⟩
  rw [exec_power_of_initialized hu, setBlanking_not, State.accept, State.record, State.emit_history,
    List.append_assoc, ← ofBool_eq_ite]
  rfl

end Sys2Proof.Machine
end

section
/-! SUPPORT. The state after reset (10_state.md R29, 70_reset_and_hazards.md R140). -/

namespace Sys2Proof.Machine

/-- Settles O1: each conjunct is one field of `State.resetWith c`. -/
theorem resetStateHoldsTheStatedValues : Obligations.ResetStateHoldsTheStatedValues := by
  refine ⟨rfl, ?_⟩
  rintro c s rfl
  exact ⟨rfl, rfl, rfl, rfl, rfl, rfl, rfl, rfl, rfl, rfl, rfl, rfl, rfl, rfl, rfl, rfl, rfl, rfl, rfl⟩

end Sys2Proof.Machine
end

section
/-! SUPPORT. The faults of TICK_BODY and SER_STEP, and how the operations that run TICK_BODY pass its fault on
(10_state.md R12, R17, 40_serializer.md R70, 60_exceptions.md R126). -/

namespace Sys2Proof.Machine

variable {s : State} {f : Fault}

/-! ### TICK_BODY and SER_STEP -/

theorem tickBody_of_gate_three (hg : s.gate = 3) (n : Word32) : s.tickBody n = .error .gatePointer := by
  have pointer : (s.writeLastMs n).nextGate = .error .gatePointer := nextGate_error.mpr ⟨hg, rfl⟩
  simp only [State.tickBody, pointer]

theorem serStart_of_busy (hb : s.ser.busy = true) (x : FrameWord) : s.serStart x = .error .serStartBusy :=
  serStart_error.mpr ⟨hb, rfl⟩

/-- NEXT_GATE comes before SER_START (45_refresh_tick.md R100), so that a busy serializer is found at a legal G only. -/
theorem tickBody_of_busy (hg : s.gate ≠ 3) (hb : s.ser.busy = true) (n : Word32) :
    s.tickBody n = .error .serStartBusy := by
  obtain ⟨g, hgate⟩ := ofBits_of_ne hg
  have pointer : (s.writeLastMs n).nextGate = .ok (g, { s.writeLastMs n with gate := g.succ.bits }) :=
    nextGate_ok.mpr ⟨ofBits_eq_some.mp hgate, rfl⟩
  simp [State.tickBody, pointer, serStart_of_busy, hb]

theorem serStep_of_index (hidx : 20 ≤ s.ser.idx.toNat) : s.serStep = .error .serIndex := if_pos hidx

/-! ### The operations that run them -/

theorem exec_tickBody_of_error {n : Word32} (h : s.tickBody n = .error f) : exec (.tickBody n) s = .fault f :=
  finish_fault.mpr h

theorem exec_tick_of_error (hu : s.ds ≠ .uninit) (hm : s.cfg.driveMode = .polled) (hb : s.ser.busy = false)
    (hdue : s.cfg.tickMs ≤ (s.now - s.lastMs).toNat) (h : s.tickBody s.now = .error f) :
    exec .tick s = .fault f := by
  simp only [exec, execTick, whenInitialized_of_initialized hu, hm, hb, elapsed, Nat.not_lt.mpr hdue, h, ne_eq,
    not_true_eq_false, Bool.false_eq_true, if_false]

theorem exec_timerService_of_error (hf : s.firePend = true) (hb : s.ser.busy = false) (hl : s.logoffPend = false)
    (h : s.fireServiced.tickBody s.now = .error f) : exec .timerService s = .fault f := by
  simp only [exec, execTimerService, serviceEnabled_of_pending hf hb, hl, h, finish, if_true, Bool.false_eq_true,
    if_false]

theorem exec_serStep_of_error (hb : s.ser.busy = true) (h : s.serStep = .error f) : exec .serStep s = .fault f :=
  (if_pos hb).trans (finish_fault.mpr h)

/-- Settles O43: the three operations that run TICK_BODY fault as it does, and SER_STEP reads SER_IDX first. -/
theorem unreachableStatesFaultByName : Obligations.UnreachableStatesFaultByName := by
  refine fun s n => ⟨fun hg => ?tickBodyGate, fun hg hb => ?tickBodyBusy, fun hu hm hb hg hdue => ?tick,
    fun hf hl hb hg => ?timerService, fun hb hidx => ?serStep⟩
  case tickBodyGate => exact exec_tickBody_of_error (tickBody_of_gate_three hg n)
  case tickBodyBusy => exact exec_tickBody_of_error (tickBody_of_busy hg hb n)
  case tick => exact exec_tick_of_error hu hm hb hdue (tickBody_of_gate_three hg s.now)
  case timerService => exact exec_timerService_of_error hf hb hl (tickBody_of_gate_three (s := s.fireServiced) hg s.now)
  case serStep => exact exec_serStep_of_error hb (serStep_of_index hidx)

end Sys2Proof.Machine
end

section
/-! SUPPORT. That every operation a step can run completes (60_exceptions.md R120, R126): a legal G keeps TICK_BODY from
its fault, and a legal SER_IDX keeps SER_STEP from its own. -/

namespace Sys2Proof.Machine

variable {s : State}

/-! ### The operations of the agents -/

/-- G is all a TICK needs: it tests SER_BUSY itself (45_refresh_tick.md R102). -/
theorem exec_tick_completes (hu : s.ds ≠ .uninit) (hg : s.gate ≠ 3) : ∃ t, exec .tick s = .next t := by
  cases hm : s.cfg.driveMode with
  | timer => exact ⟨_, exec_tick_of_timer hu hm⟩
  | polled =>
    cases hb : s.ser.busy with
    | true => exact ⟨_, exec_tick_of_busy hu hm hb⟩
    | false =>
      by_cases early : (s.now - s.lastMs).toNat < s.cfg.tickMs
      · exact ⟨_, exec_tick_of_early hu hm hb early⟩
      · obtain ⟨g, hgate⟩ := ofBits_of_ne hg
        exact ⟨_, exec_tick_of_due hu hm hb (Nat.not_lt.mp early) (ofBits_eq_some.mp hgate)⟩

theorem exec_host_completes_of_uninit {i : Instr} {op : HostOp} (hop : i.hostOp = some op) (hu : s.ds = .uninit) :
    ∃ t, exec i s = .next t := by
  cases i <;> simp only [Instr.hostOp, reduceCtorEq] at hop
  case init => exact ⟨_, exec_init_of_uninit hu⟩
  case setDisplay | update | clear | logOff | power | tick =>
    exact ⟨_, commandsBeforeInitAreRefused _ _ s rfl (by decide) hu⟩

theorem exec_host_completes_of_initialized {i : Instr} {op : HostOp} (hop : i.hostOp = some op) (hu : s.ds ≠ .uninit)
    (hg : s.gate ≠ 3) : ∃ t, exec i s = .next t := by
  cases i <;> simp only [Instr.hostOp, reduceCtorEq] at hop
  case init => exact ⟨_, exec_init_of_initialized hu⟩
  case setDisplay d => exact ⟨_, exec_setDisplay_of_initialized hu d⟩
  case update d p =>
    cases hm : s.cfg.driveMode with
    | polled => exact ⟨_, exec_update_of_polled hu hm d p⟩
    | timer => exact ⟨_, exec_update_of_timer hu hm d p⟩
  case clear => exact ⟨_, exec_clear_of_initialized hu⟩
  case logOff =>
    cases hm : s.cfg.driveMode with
    | polled => exact ⟨_, exec_logOff_of_polled hu hm⟩
    | timer => exact ⟨_, Safety.exec_logOff_of_timer hu hm⟩
  case power on => exact ⟨_, exec_power_of_initialized hu on⟩
  case tick => exact exec_tick_completes hu hg

theorem exec_host_completes {i : Instr} {op : HostOp} (hop : i.hostOp = some op) (hg : s.gate ≠ 3) :
    ∃ t, exec i s = .next t := by
  by_cases hu : s.ds = .uninit
  · exact exec_host_completes_of_uninit hop hu
  · exact exec_host_completes_of_initialized hop hu hg

/-- A HOST turn completes on every word, reserved or not (46_host_commands.md R117). -/
theorem hostTurn_completes (w : CommandWord) (hg : s.gate ≠ 3) : ∃ t, hostTurn w s = .next t := by
  cases hd : decode w with
  | error r => exact ⟨_, hostTurn_of_reserved hd⟩
  | ok i =>
    cases hh : s.holdsCommand i with
    | true => exact ⟨_, hostTurn_of_held hd hh⟩
    | false =>
      obtain ⟨op, -, -, -, hop⟩ := decode_hostOp hd
      rw [hostTurn_of_decoded hd hh]
      exact exec_host_completes hop hg

theorem exec_timerFire_completes (s : State) : ∃ t, exec .timerFire s = .next t := by
  cases he : s.timerEnabled with
  | true => exact ⟨_, if_pos he⟩
  | false => exact ⟨_, exec_timerFire_of_disabled he⟩

/-- A service waits for SER_BUSY = 0 (45_refresh_tick.md R105), so that here too G is all it needs. -/
theorem exec_timerService_completes (hg : s.gate ≠ 3) : ∃ t, exec .timerService s = .next t := by
  cases hf : s.firePend with
  | false => exact ⟨_, exec_timerService_of_disabled (serviceEnabled_eq_false.mpr (.inl hf))⟩
  | true =>
    cases hb : s.ser.busy with
    | true => exact ⟨_, exec_timerService_of_disabled (serviceEnabled_eq_false.mpr (.inr hb))⟩
    | false =>
      cases hl : s.logoffPend with
      | true => exact ⟨_, exec_timerService_of_logoff hf hb hl⟩
      | false =>
        obtain ⟨g, hgate⟩ := ofBits_of_ne hg
        exact ⟨_, exec_timerService_of_frame hf hb hl (ofBits_eq_some.mp hgate)⟩

theorem exec_serStep_completes (hidx : s.ser.busy = true → s.ser.idx.toNat ≤ 19) : ∃ t, exec .serStep s = .next t := by
  cases hb : s.ser.busy with
  | true => exact ⟨_, exec_serStep_of_busy hb (hidx hb)⟩
  | false => exact ⟨_, exec_serStep_of_idle hb⟩

theorem agentTurn_completes (a : Agent) (hg : s.gate ≠ 3) (hidx : s.ser.busy = true → s.ser.idx.toNat ≤ 19) :
    ∃ t, agentTurn a s = .next t := by
  cases a with
  | host => exact hostTurn_completes s.portWord hg
  | timer => exact exec_timerFire_completes s
  | refresh => exact exec_timerService_completes hg
  | serializer => exact exec_serStep_completes hidx

end Sys2Proof.Machine

namespace Sys2Proof.Safety

open Sys2Proof Sys2Proof.Machine

variable {s : State}

/-! ### Every step -/

/-- The invariants include every line of R28 and both first-write conditions, so the step finds none of them broken. -/
theorem Invariants.brokenRule_eq_none (h : Invariants s) : s.brokenRule = none := by
  refine brokenRule_none.mpr fun k => ?_
  cases k with
  | gateRange => exact decide_eq_true h.gate_legal
  | uninitLines => exact decide_eq_true h.uninit_lines
  | idleLines => exact decide_eq_true fun ⟨hu, hb⟩ => h.idle_lines hu hb
  | timerFlags => exact decide_eq_true h.timer_flags
  | pendingArmed => exact decide_eq_true h.pending_armed
  | busyRunning => exact decide_eq_true h.busy_running
  | stoppedFlags => exact decide_eq_true h.stopped_flags
  | lastMsWritten => exact decide_eq_true h.last_written
  | serWritten => exact decide_eq_true h.busy_written

/-- Settles O47: no rule is broken, and the agent's operation finds G and SER_IDX legal. -/
theorem stepAlwaysCompletesUnderTheInvariants : Obligations.StepAlwaysCompletesUnderTheInvariants := by
  intro s h
  rw [step_of_unbroken h.brokenRule_eq_none]
  exact agentTurn_completes s.nextTurn.agent h.beginTurn.gate_legal h.beginTurn.busy_index

end Sys2Proof.Safety
end

section
/-! SUPPORT. What the tubes see between transmissions (60_exceptions.md R133, R134). -/

namespace Sys2Proof.Safety

open Sys2Proof Sys2Proof.Machine

variable {s : State}

/-- While no frame is sent LATCH_N stands at 1, or before INIT at no level. -/
theorem Invariants.latchN_ne_low_of_idle (h : Invariants s) (hb : s.ser.busy = false) : s.lines.latchN ≠ .low := by
  by_cases hu : s.ds = .uninit
  · rw [h.uninit_lines.mp hu]
    decide
  · rw [(h.idle_lines hu hb).2]
    decide

theorem chipOut_of_latchN_ne_low (h : s.lines.latchN ≠ .low) : s.chipOut = s.chip.out := if_neg h

theorem tubes_of_blankN_high (h : s.lines.blankN = .high) : s.tubes = s.chipOut := if_pos h

theorem tubes_of_blankN_ne_high (h : s.lines.blankN ≠ .high) : s.tubes = 0 := if_neg h

/-- Settles O51: outside the latch pulse the tubes see OUT, which is the last frame once it is sent, or nothing. -/
theorem tubesShowTheLastFrameBetweenTransmissions : Obligations.TubesShowTheLastFrameBetweenTransmissions := by
  intro s f hinv h hb hlast
  refine ⟨fun shown => ?_, fun blanked => tubes_of_blankN_ne_high (by simp [blanked])⟩
  obtain ⟨-, out, -⟩ := h.sent hb f hlast
  calc s.tubes
    _ = s.chipOut := tubes_of_blankN_high shown
    _ = s.chip.out := chipOut_of_latchN_ne_low (hinv.latchN_ne_low_of_idle hb)
    _ = f := out

end Sys2Proof.Safety
end
